-- ==== Sys2Proof/Word.lean ====
section
/-! DEFINITION. The word types and the operand enumerations of the instruction set.

Bytes and words follow 00_scope.md R8 and R10. Each enumeration is one operand field of
30_encoding.md R120 to R127; it holds names, not codes. The codes stand in `Sys2Proof.Decode`. -/

namespace Sys2Proof

/-- An 8-bit value (R8, R10). -/
abbrev Byte := BitVec 8

/-- A 16-bit value (R8, R10). -/
abbrev Word := BitVec 16

/-- A 3-bit opcode field (`y` or `z` of R127): a bit number, a restart number, or a field that does not matter. -/
inductive Oct
  | o0 | o1 | o2 | o3 | o4 | o5 | o6 | o7
  deriving DecidableEq, Repr

/-- The 8-bit registers named by `reg8` (R120). Code 110 is the memory operand and no register. In the forms
with index substitution (R116) `h` is read as IXH or IYH and `l` as IXL or IYL. -/
inductive Reg8
  | b | c | d | e | h | l | a
  deriving DecidableEq, Repr

/-- The halves of an index register: the field `q` of the IXH/IXL rows (R55, R116). -/
inductive Half
  | high | low
  deriving DecidableEq, Repr

/-- The register pairs named by `rp` (R122). In the forms with index substitution `hl` is read as IX or IY. -/
inductive Pair
  | bc | de | hl | sp
  deriving DecidableEq, Repr

/-- The register pairs named by `rp2`, the field of PUSH and POP (R123). -/
inductive StackPair
  | bc | de | hl | af
  deriving DecidableEq, Repr

/-- The two index registers (R55). -/
inductive Index
  | ix | iy
  deriving DecidableEq, Repr

/-- The eight conditions of JP, CALL and RET (R124). -/
inductive Cond
  | nz | z | nc | c | po | pe | p | m
  deriving DecidableEq, Repr

/-- The four conditions of JR (R124). -/
inductive JrCond
  | nz | z | nc | c
  deriving DecidableEq, Repr

/-- The decode contexts of R110: `plain` is None, `index` is IX or IY, `indexCb` is IXCB or IYCB. -/
inductive Context
  | plain
  | cb
  | ed
  | index (x : Index)
  | indexCb (x : Index)
  deriving DecidableEq, Repr

end Sys2Proof
end

