-- ==== Sys2Proof/Machine/Bits.lean ====
section
/-! DEFINITION. Bit fields, byte order and the small arithmetic that the rules name (00_scope.md R10, R11, R15). -/

namespace Sys2Proof.Machine

/-- `hi(w)`, bits 15 to 8 (R10). -/
def hi (w : Word) : Byte := w.extractLsb' 8 8

/-- `lo(w)`, bits 7 to 0 (R10). -/
def lo (w : Word) : Byte := w.extractLsb' 0 8

/-- `h:l`, the word `h * 256 + l` (R10). -/
def word (h l : Byte) : Word := h ++ l

/-- `sext_16(b)` (R11). -/
def sext16 (b : Byte) : Word := b.signExtend 16

/-- `inc7(r)`: bits 6 to 0 count modulo 128, bit 7 is kept (R15). -/
def inc7 (r : Byte) : Byte := r.extractLsb' 7 1 ++ (r.extractLsb' 0 7 + 1)

/-- `parity(v)`: an even number of 1 bits (R15). -/
def parity (v : Byte) : Bool :=
  !(v.getLsbD 0 ^^ v.getLsbD 1 ^^ v.getLsbD 2 ^^ v.getLsbD 3 ^^
    v.getLsbD 4 ^^ v.getLsbD 5 ^^ v.getLsbD 6 ^^ v.getLsbD 7)

/-- The low digit `v[3:0]`. -/
def lowDigit (v : Byte) : BitVec 4 := v.extractLsb' 0 4

/-- The high digit `v[7:4]`. -/
def highDigit (v : Byte) : BitVec 4 := v.extractLsb' 4 4

/-- The value of a 3-bit field. -/
def octVal : Oct → Nat
  | .o0 => 0 | .o1 => 1 | .o2 => 2 | .o3 => 3 | .o4 => 4 | .o5 => 5 | .o6 => 6 | .o7 => 7

/-- `2^b`, the mask of bit number `b` (46_bit.md). -/
def bitMask (b : Oct) : Byte := 1#8 <<< octVal b

end Sys2Proof.Machine
end

