-- ==== Sys2Proof/Syntax.lean ====
section
/-! DEFINITION. The instruction set: one constructor for each row of spec/opcode_table.json.

The nine rows "NOP (ED, undefined opcode)" are one instruction, `nopEd`, which carries its opcode byte (log entry 14).
An operand `x : Index` is the IXY of 00_scope.md R18. A field whose value does not matter (`y` of NEG, RETN and IM,
`z` of BIT b,(IXY+d), `x` of a prefix met in context IX or IY) is kept, so that an instruction has one encoding.
`anyOther` is the row "(any other opcode: decoded as in context None, index mode ignored)" (30_encoding.md R115): it
carries the context-None instruction that its byte stands for. -/

namespace Sys2Proof

/-- The instructions. Each line names the row's spelling in the spec, its context, its encoding and its rule. -/
inductive Instr
  -- context None
  /-- `NOP`: 00000000, R490. -/
  | nop
  /-- `EX AF,AF'`: 00001000, R256. -/
  | exAfAf
  /-- `DJNZ e`: 00010000 eeeeeeee, R424. -/
  | djnz (e : Byte)
  /-- `JR e`: 00011000 eeeeeeee, R422. -/
  | jr (e : Byte)
  /-- `JR cc,e`: 001cc000 eeeeeeee, R423. -/
  | jrCc (cc : JrCond) (e : Byte)
  /-- `LD rr,nn`: 00pp0001 nnnnnnnn NNNNNNNN, R240. -/
  | ldRpNn (p : Pair) (nn : Word)
  /-- `ADD HL,rr`: 00pp1001, R350. -/
  | addHlRp (p : Pair)
  /-- `LD (BC),A`: 00000010, R206. -/
  | ldIndBcA
  /-- `LD (DE),A`: 00010010, R206. -/
  | ldIndDeA
  /-- `LD (nn),HL`: 00100010 nnnnnnnn NNNNNNNN, R243. -/
  | ldIndNnHl (nn : Word)
  /-- `LD (nn),A`: 00110010 nnnnnnnn NNNNNNNN, R208. -/
  | ldIndNnA (nn : Word)
  /-- `LD A,(BC)`: 00001010, R205. -/
  | ldAIndBc
  /-- `LD A,(DE)`: 00011010, R205. -/
  | ldAIndDe
  /-- `LD HL,(nn)`: 00101010 nnnnnnnn NNNNNNNN, R242. -/
  | ldHlIndNn (nn : Word)
  /-- `LD A,(nn)`: 00111010 nnnnnnnn NNNNNNNN, R207. -/
  | ldAIndNn (nn : Word)
  /-- `INC rr`: 00pp0011, R354. -/
  | incRp (p : Pair)
  /-- `DEC rr`: 00pp1011, R355. -/
  | decRp (p : Pair)
  /-- `INC r`: 00rrr100, R314. -/
  | incR (r : Reg8)
  /-- `INC (HL)`: 00110100, R315. -/
  | incIndHl
  /-- `DEC r`: 00rrr101, R317. -/
  | decR (r : Reg8)
  /-- `DEC (HL)`: 00110101, R318. -/
  | decIndHl
  /-- `LD r,n`: 00rrr110 nnnnnnnn, R201. -/
  | ldRN (r : Reg8) (n : Byte)
  /-- `LD (HL),n`: 00110110 nnnnnnnn, R204. -/
  | ldIndHlN (n : Byte)
  /-- `RLCA`: 00000111, R370. -/
  | rlca
  /-- `RRCA`: 00001111, R371. -/
  | rrca
  /-- `RLA`: 00010111, R372. -/
  | rla
  /-- `RRA`: 00011111, R373. -/
  | rra
  /-- `DAA`: 00100111, R320. -/
  | daa
  /-- `CPL`: 00101111, R321. -/
  | cpl
  /-- `SCF`: 00110111, R323. -/
  | scf
  /-- `CCF`: 00111111, R324. -/
  | ccf
  /-- `LD r,r'`: 01rrrsss, R200. -/
  | ldRR (dst : Reg8) (src : Reg8)
  /-- `LD r,(HL)`: 01rrr110, R202. -/
  | ldRIndHl (r : Reg8)
  /-- `LD (HL),r`: 01110rrr, R203. -/
  | ldIndHlR (r : Reg8)
  /-- `HALT`: 01110110, R491. -/
  | halt
  /-- `ADD A,r`: 10000rrr, R306. -/
  | addR (r : Reg8)
  /-- `ADD A,(HL)`: 10000110, R306. -/
  | addIndHl
  /-- `ADD A,n`: 11000110 nnnnnnnn, R306. -/
  | addN (n : Byte)
  /-- `ADC A,r`: 10001rrr, R307. -/
  | adcR (r : Reg8)
  /-- `ADC A,(HL)`: 10001110, R307. -/
  | adcIndHl
  /-- `ADC A,n`: 11001110 nnnnnnnn, R307. -/
  | adcN (n : Byte)
  /-- `SUB r`: 10010rrr, R308. -/
  | subR (r : Reg8)
  /-- `SUB (HL)`: 10010110, R308. -/
  | subIndHl
  /-- `SUB n`: 11010110 nnnnnnnn, R308. -/
  | subN (n : Byte)
  /-- `SBC A,r`: 10011rrr, R309. -/
  | sbcR (r : Reg8)
  /-- `SBC A,(HL)`: 10011110, R309. -/
  | sbcIndHl
  /-- `SBC A,n`: 11011110 nnnnnnnn, R309. -/
  | sbcN (n : Byte)
  /-- `AND r`: 10100rrr, R310. -/
  | andR (r : Reg8)
  /-- `AND (HL)`: 10100110, R310. -/
  | andIndHl
  /-- `AND n`: 11100110 nnnnnnnn, R310. -/
  | andN (n : Byte)
  /-- `XOR r`: 10101rrr, R311. -/
  | xorR (r : Reg8)
  /-- `XOR (HL)`: 10101110, R311. -/
  | xorIndHl
  /-- `XOR n`: 11101110 nnnnnnnn, R311. -/
  | xorN (n : Byte)
  /-- `OR r`: 10110rrr, R312. -/
  | orR (r : Reg8)
  /-- `OR (HL)`: 10110110, R312. -/
  | orIndHl
  /-- `OR n`: 11110110 nnnnnnnn, R312. -/
  | orN (n : Byte)
  /-- `CP r`: 10111rrr, R313. -/
  | cpR (r : Reg8)
  /-- `CP (HL)`: 10111110, R313. -/
  | cpIndHl
  /-- `CP n`: 11111110 nnnnnnnn, R313. -/
  | cpN (n : Byte)
  /-- `RET cc`: 11ccc000, R430. -/
  | retCc (cc : Cond)
  /-- `POP qq`: 11pp0001, R252. -/
  | popRp (q : StackPair)
  /-- `RET`: 11001001, R429. -/
  | ret
  /-- `EXX`: 11011001, R257. -/
  | exx
  /-- `JP (HL)`: 11101001, R425. -/
  | jpIndHl
  /-- `LD SP,HL`: 11111001, R248. -/
  | ldSpHl
  /-- `JP cc,nn`: 11ccc010 nnnnnnnn NNNNNNNN, R421. -/
  | jpCcNn (cc : Cond) (nn : Word)
  /-- `JP nn`: 11000011 nnnnnnnn NNNNNNNN, R420. -/
  | jpNn (nn : Word)
  /-- `CB prefix`: 11001011, R500. -/
  | cbPrefix
  /-- `OUT (n),A`: 11010011 nnnnnnnn, R461. -/
  | outIndNA (n : Byte)
  /-- `IN A,(n)`: 11011011 nnnnnnnn, R460. -/
  | inAIndN (n : Byte)
  /-- `EX (SP),HL`: 11100011, R255. -/
  | exIndSpHl
  /-- `EX DE,HL`: 11101011, R254. -/
  | exDeHl
  /-- `DI`: 11110011, R492. -/
  | di
  /-- `EI`: 11111011, R493. -/
  | ei
  /-- `CALL cc,nn`: 11ccc100 nnnnnnnn NNNNNNNN, R428. -/
  | callCcNn (cc : Cond) (nn : Word)
  /-- `PUSH qq`: 11pp0101, R250. -/
  | pushRp (q : StackPair)
  /-- `CALL nn`: 11001101 nnnnnnnn NNNNNNNN, R427. -/
  | callNn (nn : Word)
  /-- `DD prefix`: 11011101, R498. -/
  | ddPrefix
  /-- `ED prefix`: 11101101, R501. -/
  | edPrefix
  /-- `FD prefix`: 11111101, R499. -/
  | fdPrefix
  /-- `RST p`: 11yyy111, R433. -/
  | rst (y : Oct)
  -- context IX or IY
  /-- `ADD IXY,rr`: 00pp1001, R351. -/
  | addXRp (x : Index) (p : Pair)
  /-- `LD IXY,nn`: 00100001 nnnnnnnn NNNNNNNN, R241. -/
  | ldXNn (x : Index) (nn : Word)
  /-- `LD (nn),IXY`: 00100010 nnnnnnnn NNNNNNNN, R245. -/
  | ldIndNnX (x : Index) (nn : Word)
  /-- `LD IXY,(nn)`: 00101010 nnnnnnnn NNNNNNNN, R244. -/
  | ldXIndNn (x : Index) (nn : Word)
  /-- `INC IXY`: 00100011, R356. -/
  | incX (x : Index)
  /-- `DEC IXY`: 00101011, R356. -/
  | decX (x : Index)
  /-- `INC IXYH/IXYL`: 0010q100, R314. -/
  | incXHalf (x : Index) (q : Half)
  /-- `DEC IXYH/IXYL`: 0010q101, R317. -/
  | decXHalf (x : Index) (q : Half)
  /-- `LD IXYH/IXYL,n`: 0010q110 nnnnnnnn, R212. -/
  | ldXHalfN (x : Index) (q : Half) (n : Byte)
  /-- `INC (IXY+d)`: 00110100 dddddddd, R316. -/
  | incIdx (x : Index) (d : Byte)
  /-- `DEC (IXY+d)`: 00110101 dddddddd, R319. -/
  | decIdx (x : Index) (d : Byte)
  /-- `LD (IXY+d),n`: 00110110 dddddddd nnnnnnnn, R211. -/
  | ldIdxN (x : Index) (d : Byte) (n : Byte)
  /-- `LD r,r' (index halves)`: 01rrrsss, R212. -/
  | ldRRHalves (x : Index) (dst : Reg8) (src : Reg8)
  /-- `LD r,(IXY+d)`: 01rrr110 dddddddd, R209. -/
  | ldRIdx (x : Index) (r : Reg8) (d : Byte)
  /-- `LD (IXY+d),r`: 01110rrr dddddddd, R210. -/
  | ldIdxR (x : Index) (d : Byte) (r : Reg8)
  /-- `ADD A,IXYH/IXYL`: 1000010q, R306. -/
  | addXHalf (x : Index) (q : Half)
  /-- `ADD A,(IXY+d)`: 10000110 dddddddd, R306. -/
  | addIdx (x : Index) (d : Byte)
  /-- `ADC A,IXYH/IXYL`: 1000110q, R307. -/
  | adcXHalf (x : Index) (q : Half)
  /-- `ADC A,(IXY+d)`: 10001110 dddddddd, R307. -/
  | adcIdx (x : Index) (d : Byte)
  /-- `SUB IXYH/IXYL`: 1001010q, R308. -/
  | subXHalf (x : Index) (q : Half)
  /-- `SUB (IXY+d)`: 10010110 dddddddd, R308. -/
  | subIdx (x : Index) (d : Byte)
  /-- `SBC A,IXYH/IXYL`: 1001110q, R309. -/
  | sbcXHalf (x : Index) (q : Half)
  /-- `SBC A,(IXY+d)`: 10011110 dddddddd, R309. -/
  | sbcIdx (x : Index) (d : Byte)
  /-- `AND IXYH/IXYL`: 1010010q, R310. -/
  | andXHalf (x : Index) (q : Half)
  /-- `AND (IXY+d)`: 10100110 dddddddd, R310. -/
  | andIdx (x : Index) (d : Byte)
  /-- `XOR IXYH/IXYL`: 1010110q, R311. -/
  | xorXHalf (x : Index) (q : Half)
  /-- `XOR (IXY+d)`: 10101110 dddddddd, R311. -/
  | xorIdx (x : Index) (d : Byte)
  /-- `OR IXYH/IXYL`: 1011010q, R312. -/
  | orXHalf (x : Index) (q : Half)
  /-- `OR (IXY+d)`: 10110110 dddddddd, R312. -/
  | orIdx (x : Index) (d : Byte)
  /-- `CP IXYH/IXYL`: 1011110q, R313. -/
  | cpXHalf (x : Index) (q : Half)
  /-- `CP (IXY+d)`: 10111110 dddddddd, R313. -/
  | cpIdx (x : Index) (d : Byte)
  /-- `POP IXY`: 11100001, R253. -/
  | popX (x : Index)
  /-- `EX (SP),IXY`: 11100011, R258. -/
  | exIndSpX (x : Index)
  /-- `PUSH IXY`: 11100101, R251. -/
  | pushX (x : Index)
  /-- `JP (IXY)`: 11101001, R426. -/
  | jpX (x : Index)
  /-- `LD SP,IXY`: 11111001, R249. -/
  | ldSpX (x : Index)
  /-- `CB prefix (indexed)`: 11001011, R500. -/
  | cbPrefixX (x : Index)
  /-- `DD prefix (replaces)`: 11011101, R498. -/
  | ddPrefixX (x : Index)
  /-- `ED prefix (cancels index)`: 11101101, R501. -/
  | edPrefixX (x : Index)
  /-- `FD prefix (replaces)`: 11111101, R499. -/
  | fdPrefixX (x : Index)
  /-- `(any other opcode: decoded as in context None, index mode ignored)`: xxxxxxxx, R115. -/
  | anyOther (x : Index) (j : Instr)
  -- context CB
  /-- `RLC r`: 00000rrr, R375. -/
  | rlcR (r : Reg8)
  /-- `RLC (HL)`: 00000110, R375. -/
  | rlcIndHl
  /-- `RRC r`: 00001rrr, R376. -/
  | rrcR (r : Reg8)
  /-- `RRC (HL)`: 00001110, R376. -/
  | rrcIndHl
  /-- `RL r`: 00010rrr, R377. -/
  | rlR (r : Reg8)
  /-- `RL (HL)`: 00010110, R377. -/
  | rlIndHl
  /-- `RR r`: 00011rrr, R378. -/
  | rrR (r : Reg8)
  /-- `RR (HL)`: 00011110, R378. -/
  | rrIndHl
  /-- `SLA r`: 00100rrr, R379. -/
  | slaR (r : Reg8)
  /-- `SLA (HL)`: 00100110, R379. -/
  | slaIndHl
  /-- `SRA r`: 00101rrr, R380. -/
  | sraR (r : Reg8)
  /-- `SRA (HL)`: 00101110, R380. -/
  | sraIndHl
  /-- `SLL r`: 00110rrr, R381. -/
  | sllR (r : Reg8)
  /-- `SLL (HL)`: 00110110, R381. -/
  | sllIndHl
  /-- `SRL r`: 00111rrr, R382. -/
  | srlR (r : Reg8)
  /-- `SRL (HL)`: 00111110, R382. -/
  | srlIndHl
  /-- `BIT b,r`: 01bbbrrr, R400. -/
  | bitR (b : Oct) (r : Reg8)
  /-- `BIT b,(HL)`: 01bbb110, R401. -/
  | bitIndHl (b : Oct)
  /-- `RES b,r`: 10bbbrrr, R403. -/
  | resR (b : Oct) (r : Reg8)
  /-- `RES b,(HL)`: 10bbb110, R404. -/
  | resIndHl (b : Oct)
  /-- `SET b,r`: 11bbbrrr, R406. -/
  | setR (b : Oct) (r : Reg8)
  /-- `SET b,(HL)`: 11bbb110, R407. -/
  | setIndHl (b : Oct)
  -- context IXCB or IYCB
  /-- `RLC (IXY+d)`: dddddddd 00000110, R375. -/
  | rlcIdx (x : Index) (d : Byte)
  /-- `RLC (IXY+d),r`: dddddddd 00000rrr, R375. -/
  | rlcIdxR (x : Index) (d : Byte) (r : Reg8)
  /-- `RRC (IXY+d)`: dddddddd 00001110, R376. -/
  | rrcIdx (x : Index) (d : Byte)
  /-- `RRC (IXY+d),r`: dddddddd 00001rrr, R376. -/
  | rrcIdxR (x : Index) (d : Byte) (r : Reg8)
  /-- `RL (IXY+d)`: dddddddd 00010110, R377. -/
  | rlIdx (x : Index) (d : Byte)
  /-- `RL (IXY+d),r`: dddddddd 00010rrr, R377. -/
  | rlIdxR (x : Index) (d : Byte) (r : Reg8)
  /-- `RR (IXY+d)`: dddddddd 00011110, R378. -/
  | rrIdx (x : Index) (d : Byte)
  /-- `RR (IXY+d),r`: dddddddd 00011rrr, R378. -/
  | rrIdxR (x : Index) (d : Byte) (r : Reg8)
  /-- `SLA (IXY+d)`: dddddddd 00100110, R379. -/
  | slaIdx (x : Index) (d : Byte)
  /-- `SLA (IXY+d),r`: dddddddd 00100rrr, R379. -/
  | slaIdxR (x : Index) (d : Byte) (r : Reg8)
  /-- `SRA (IXY+d)`: dddddddd 00101110, R380. -/
  | sraIdx (x : Index) (d : Byte)
  /-- `SRA (IXY+d),r`: dddddddd 00101rrr, R380. -/
  | sraIdxR (x : Index) (d : Byte) (r : Reg8)
  /-- `SLL (IXY+d)`: dddddddd 00110110, R381. -/
  | sllIdx (x : Index) (d : Byte)
  /-- `SLL (IXY+d),r`: dddddddd 00110rrr, R381. -/
  | sllIdxR (x : Index) (d : Byte) (r : Reg8)
  /-- `SRL (IXY+d)`: dddddddd 00111110, R382. -/
  | srlIdx (x : Index) (d : Byte)
  /-- `SRL (IXY+d),r`: dddddddd 00111rrr, R382. -/
  | srlIdxR (x : Index) (d : Byte) (r : Reg8)
  /-- `BIT b,(IXY+d)`: dddddddd 01bbbzzz, R402. -/
  | bitIdx (x : Index) (d : Byte) (b : Oct) (z : Oct)
  /-- `RES b,(IXY+d)`: dddddddd 10bbb110, R405. -/
  | resIdx (x : Index) (d : Byte) (b : Oct)
  /-- `RES b,(IXY+d),r`: dddddddd 10bbbrrr, R405. -/
  | resIdxR (x : Index) (d : Byte) (b : Oct) (r : Reg8)
  /-- `SET b,(IXY+d)`: dddddddd 11bbb110, R408. -/
  | setIdx (x : Index) (d : Byte) (b : Oct)
  /-- `SET b,(IXY+d),r`: dddddddd 11bbbrrr, R408. -/
  | setIdxR (x : Index) (d : Byte) (b : Oct) (r : Reg8)
  -- context ED
  /-- `IN r,(C)`: 01rrr000, R462. -/
  | inRIndC (r : Reg8)
  /-- `IN (C)`: 01110000, R463. -/
  | inIndC
  /-- `OUT (C),r`: 01rrr001, R464. -/
  | outIndCR (r : Reg8)
  /-- `OUT (C),0`: 01110001, R465. -/
  | outIndC0
  /-- `SBC HL,rr`: 01pp0010, R353. -/
  | sbcHlRp (p : Pair)
  /-- `ADC HL,rr`: 01pp1010, R352. -/
  | adcHlRp (p : Pair)
  /-- `LD (nn),rr`: 01pp0011 nnnnnnnn NNNNNNNN, R247. -/
  | ldIndNnRp (p : Pair) (nn : Word)
  /-- `LD rr,(nn)`: 01pp1011 nnnnnnnn NNNNNNNN, R246. -/
  | ldRpIndNn (p : Pair) (nn : Word)
  /-- `NEG`: 01yyy100, R322. -/
  | neg (y : Oct)
  /-- `RETN`: 01yyy101, R432. -/
  | retn (y : Oct)
  /-- `RETI`: 01001101, R431. -/
  | reti
  /-- `IM 0`: 01y0y110, R494. -/
  | im0 (y : Oct)
  /-- `IM 1`: 01y10110, R495. -/
  | im1 (y : Oct)
  /-- `IM 2`: 01y11110, R496. -/
  | im2 (y : Oct)
  /-- `LD I,A`: 01000111, R215. -/
  | ldIA
  /-- `LD R,A`: 01001111, R216. -/
  | ldRegRA
  /-- `LD A,I`: 01010111, R213. -/
  | ldAI
  /-- `LD A,R`: 01011111, R214. -/
  | ldARegR
  /-- `RRD`: 01100111, R384. -/
  | rrd
  /-- `RLD`: 01101111, R383. -/
  | rld
  /-- `LDI`: 10100000, R280. -/
  | ldi
  /-- `LDD`: 10101000, R281. -/
  | ldd
  /-- `LDIR`: 10110000, R282. -/
  | ldir
  /-- `LDDR`: 10111000, R283. -/
  | lddr
  /-- `CPI`: 10100001, R284. -/
  | cpi
  /-- `CPD`: 10101001, R285. -/
  | cpd
  /-- `CPIR`: 10110001, R286. -/
  | cpir
  /-- `CPDR`: 10111001, R287. -/
  | cpdr
  /-- `INI`: 10100010, R467. -/
  | ini
  /-- `IND`: 10101010, R468. -/
  | ind
  /-- `INIR`: 10110010, R469. -/
  | inir
  /-- `INDR`: 10111010, R470. -/
  | indr
  /-- `OUTI`: 10100011, R471. -/
  | outi
  /-- `OUTD`: 10101011, R472. -/
  | outd
  /-- `OTIR`: 10110011, R473. -/
  | otir
  /-- `OTDR`: 10111011, R474. -/
  | otdr
  /-- `NOP (ED, undefined opcode)`: 00xxxxxx, R497. -/
  | nopEd (op : Byte)
  deriving DecidableEq, Repr

end Sys2Proof
end

