-- ==== Sys2Proof/WellFormed.lean ====
section
/-! DEFINITION. The checks on an instruction that its types do not make: which value of a field belongs to which row.

`Instr.unsubstituted` is 30_encoding.md R115: the context-None instructions that a DD or FD prefix does not change, so
that no row of context IX|IY matches their byte (the list of R133). -/

namespace Sys2Proof

/-- H or L, the registers that an index prefix replaces (R116). -/
def Reg8.isHL : Reg8 → Bool
  | .h | .l => true
  | .b | .c | .d | .e | .a => false

/-- Does the instruction belong to context None, and is its byte one that context IX|IY does not change (R115, R133)? -/
def Instr.unsubstituted : Instr → Bool
  | .nop | .exAfAf | .djnz _ | .jr _ | .jrCc _ _ => true
  | .ldRpNn p _ | .incRp p | .decRp p => p != .hl
  | .ldIndBcA | .ldIndDeA | .ldIndNnA _ | .ldAIndBc | .ldAIndDe | .ldAIndNn _ => true
  | .incR r | .decR r | .ldRN r _ => !r.isHL
  | .rlca | .rrca | .rla | .rra | .daa | .cpl | .scf | .ccf | .halt => true
  | .ldRR dst src => !dst.isHL && !src.isHL
  | .addR r | .adcR r | .subR r | .sbcR r | .andR r | .xorR r | .orR r | .cpR r => !r.isHL
  | .addN _ | .adcN _ | .subN _ | .sbcN _ | .andN _ | .xorN _ | .orN _ | .cpN _ => true
  | .retCc _ | .ret | .exx | .jpCcNn _ _ | .jpNn _ | .outIndNA _ | .inAIndN _ | .exDeHl | .di | .ei => true
  | .popRp q | .pushRp q => q != .hl
  | .callCcNn _ _ | .callNn _ | .rst _ => true
  | .addHlRp _ | .ldIndNnHl _ | .ldHlIndNn _ | .incIndHl | .decIndHl | .ldIndHlN _ | .ldRIndHl _ | .ldIndHlR _ => false
  | .addIndHl | .adcIndHl | .subIndHl | .sbcIndHl | .andIndHl | .xorIndHl | .orIndHl | .cpIndHl => false
  | .jpIndHl | .ldSpHl | .exIndSpHl | .cbPrefix | .ddPrefix | .edPrefix | .fdPrefix => false
  -- the other contexts
  | .addXRp _ _ | .ldXNn _ _ | .ldIndNnX _ _ | .ldXIndNn _ _ | .incX _ | .decX _ | .incXHalf _ _ | .decXHalf _ _ => false
  | .ldXHalfN _ _ _ | .incIdx _ _ | .decIdx _ _ | .ldIdxN _ _ _ | .ldRRHalves _ _ _ | .ldRIdx _ _ _ | .ldIdxR _ _ _ => false
  | .addXHalf _ _ | .adcXHalf _ _ | .subXHalf _ _ | .sbcXHalf _ _ | .andXHalf _ _ | .xorXHalf _ _ => false
  | .orXHalf _ _ | .cpXHalf _ _ | .addIdx _ _ | .adcIdx _ _ | .subIdx _ _ | .sbcIdx _ _ | .andIdx _ _ => false
  | .xorIdx _ _ | .orIdx _ _ | .cpIdx _ _ | .popX _ | .exIndSpX _ | .pushX _ | .jpX _ | .ldSpX _ => false
  | .cbPrefixX _ | .ddPrefixX _ | .edPrefixX _ | .fdPrefixX _ | .anyOther _ _ => false
  | .rlcR _ | .rrcR _ | .rlR _ | .rrR _ | .slaR _ | .sraR _ | .sllR _ | .srlR _ => false
  | .rlcIndHl | .rrcIndHl | .rlIndHl | .rrIndHl | .slaIndHl | .sraIndHl | .sllIndHl | .srlIndHl => false
  | .bitR _ _ | .bitIndHl _ | .resR _ _ | .resIndHl _ | .setR _ _ | .setIndHl _ => false
  | .rlcIdx _ _ | .rrcIdx _ _ | .rlIdx _ _ | .rrIdx _ _ | .slaIdx _ _ | .sraIdx _ _ | .sllIdx _ _ | .srlIdx _ _ => false
  | .rlcIdxR _ _ _ | .rrcIdxR _ _ _ | .rlIdxR _ _ _ | .rrIdxR _ _ _ | .slaIdxR _ _ _ | .sraIdxR _ _ _ => false
  | .sllIdxR _ _ _ | .srlIdxR _ _ _ | .bitIdx _ _ _ _ | .resIdx _ _ _ | .resIdxR _ _ _ _ | .setIdx _ _ _ => false
  | .setIdxR _ _ _ _ => false
  | .inRIndC _ | .inIndC | .outIndCR _ | .outIndC0 | .sbcHlRp _ | .adcHlRp _ | .ldIndNnRp _ _ | .ldRpIndNn _ _ => false
  | .neg _ | .retn _ | .reti | .im0 _ | .im1 _ | .im2 _ | .ldIA | .ldRegRA | .ldAI | .ldARegR | .rrd | .rld => false
  | .ldi | .ldd | .ldir | .lddr | .cpi | .cpd | .cpir | .cpdr => false
  | .ini | .ind | .inir | .indr | .outi | .outd | .otir | .otdr | .nopEd _ => false

/-- The 178 undefined ED opcodes: ED 00 to 3F, 77, 7F, 80 to 9F, A4 to A7, AC to AF, B4 to B7, BC to BF, C0 to FF (R135, R497). -/
def undefinedEd (op : Byte) : Bool :=
  let n := op.toNat
  n < 0x40 || n == 0x77 || n == 0x7F || (0x80 ≤ n && n ≤ 0x9F) || (0xA4 ≤ n && n ≤ 0xA7) || (0xAC ≤ n && n ≤ 0xAF) ||
    (0xB4 ≤ n && n ≤ 0xB7) || (0xBC ≤ n && n ≤ 0xBF) || 0xC0 ≤ n

/-- Is the instruction one that an encoding of its row stands for? -/
def Instr.wf : Instr → Bool
  | .ldRRHalves _ dst src => dst.isHL || src.isHL
  | .anyOther _ j => j.unsubstituted
  | .retn y => y != .o1
  | .im0 y => y == .o0 || y == .o1 || y == .o4 || y == .o5
  | .im1 y => y == .o2 || y == .o6
  | .im2 y => y == .o3 || y == .o7
  | .nopEd op => undefinedEd op
  | .nop | .exAfAf | .djnz _ | .jr _ | .jrCc _ _ | .ldRpNn _ _ | .addHlRp _ | .ldIndBcA | .ldIndDeA => true
  | .ldIndNnHl _ | .ldIndNnA _ | .ldAIndBc | .ldAIndDe | .ldHlIndNn _ | .ldAIndNn _ | .incRp _ | .decRp _ => true
  | .incR _ | .incIndHl | .decR _ | .decIndHl | .ldRN _ _ | .ldIndHlN _ | .rlca | .rrca | .rla | .rra | .daa => true
  | .cpl | .scf | .ccf | .ldRR _ _ | .ldRIndHl _ | .ldIndHlR _ | .halt | .addR _ | .addIndHl | .addN _ | .adcR _ => true
  | .adcIndHl | .adcN _ | .subR _ | .subIndHl | .subN _ | .sbcR _ | .sbcIndHl | .sbcN _ | .andR _ | .andIndHl => true
  | .andN _ | .xorR _ | .xorIndHl | .xorN _ | .orR _ | .orIndHl | .orN _ | .cpR _ | .cpIndHl | .cpN _ | .retCc _ => true
  | .popRp _ | .ret | .exx | .jpIndHl | .ldSpHl | .jpCcNn _ _ | .jpNn _ | .cbPrefix | .outIndNA _ | .inAIndN _ => true
  | .exIndSpHl | .exDeHl | .di | .ei | .callCcNn _ _ | .pushRp _ | .callNn _ | .ddPrefix | .edPrefix | .fdPrefix => true
  | .rst _ | .addXRp _ _ | .ldXNn _ _ | .ldIndNnX _ _ | .ldXIndNn _ _ | .incX _ | .decX _ | .incXHalf _ _ => true
  | .decXHalf _ _ | .ldXHalfN _ _ _ | .incIdx _ _ | .decIdx _ _ | .ldIdxN _ _ _ | .ldRIdx _ _ _ | .ldIdxR _ _ _ => true
  | .addXHalf _ _ | .addIdx _ _ | .adcXHalf _ _ | .adcIdx _ _ | .subXHalf _ _ | .subIdx _ _ | .sbcXHalf _ _ => true
  | .sbcIdx _ _ | .andXHalf _ _ | .andIdx _ _ | .xorXHalf _ _ | .xorIdx _ _ | .orXHalf _ _ | .orIdx _ _ => true
  | .cpXHalf _ _ | .cpIdx _ _ | .popX _ | .exIndSpX _ | .pushX _ | .jpX _ | .ldSpX _ | .cbPrefixX _ => true
  | .ddPrefixX _ | .edPrefixX _ | .fdPrefixX _ | .rlcR _ | .rlcIndHl | .rrcR _ | .rrcIndHl | .rlR _ | .rlIndHl => true
  | .rrR _ | .rrIndHl | .slaR _ | .slaIndHl | .sraR _ | .sraIndHl | .sllR _ | .sllIndHl | .srlR _ | .srlIndHl => true
  | .bitR _ _ | .bitIndHl _ | .resR _ _ | .resIndHl _ | .setR _ _ | .setIndHl _ | .rlcIdx _ _ | .rlcIdxR _ _ _ => true
  | .rrcIdx _ _ | .rrcIdxR _ _ _ | .rlIdx _ _ | .rlIdxR _ _ _ | .rrIdx _ _ | .rrIdxR _ _ _ | .slaIdx _ _ => true
  | .slaIdxR _ _ _ | .sraIdx _ _ | .sraIdxR _ _ _ | .sllIdx _ _ | .sllIdxR _ _ _ | .srlIdx _ _ | .srlIdxR _ _ _ => true
  | .bitIdx _ _ _ _ | .resIdx _ _ _ | .resIdxR _ _ _ _ | .setIdx _ _ _ | .setIdxR _ _ _ _ | .inRIndC _ | .inIndC => true
  | .outIndCR _ | .outIndC0 | .sbcHlRp _ | .adcHlRp _ | .ldIndNnRp _ _ | .ldRpIndNn _ _ | .neg _ | .reti | .ldIA => true
  | .ldRegRA | .ldAI | .ldARegR | .rrd | .rld | .ldi | .ldd | .ldir | .lddr | .cpi | .cpd | .cpir | .cpdr | .ini => true
  | .ind | .inir | .indr | .outi | .outd | .otir | .otdr => true

/-- Is the instruction one of the eight prefix steps (R114, R498 to R501)? -/
def Instr.isPrefixStep : Instr → Bool
  | .cbPrefix | .ddPrefix | .edPrefix | .fdPrefix | .cbPrefixX _ | .ddPrefixX _ | .edPrefixX _ | .fdPrefixX _ => true
  | .nop | .exAfAf | .djnz _ | .jr _ | .jrCc _ _ | .ldRpNn _ _ | .addHlRp _ | .ldIndBcA | .ldIndDeA => false
  | .ldIndNnHl _ | .ldIndNnA _ | .ldAIndBc | .ldAIndDe | .ldHlIndNn _ | .ldAIndNn _ | .incRp _ | .decRp _ => false
  | .incR _ | .incIndHl | .decR _ | .decIndHl | .ldRN _ _ | .ldIndHlN _ | .rlca | .rrca | .rla | .rra | .daa => false
  | .cpl | .scf | .ccf | .ldRR _ _ | .ldRIndHl _ | .ldIndHlR _ | .halt | .addR _ | .addIndHl | .addN _ | .adcR _ => false
  | .adcIndHl | .adcN _ | .subR _ | .subIndHl | .subN _ | .sbcR _ | .sbcIndHl | .sbcN _ | .andR _ | .andIndHl => false
  | .andN _ | .xorR _ | .xorIndHl | .xorN _ | .orR _ | .orIndHl | .orN _ | .cpR _ | .cpIndHl | .cpN _ | .retCc _ => false
  | .popRp _ | .ret | .exx | .jpIndHl | .ldSpHl | .jpCcNn _ _ | .jpNn _ | .outIndNA _ | .inAIndN _ | .exIndSpHl => false
  | .exDeHl | .di | .ei | .callCcNn _ _ | .pushRp _ | .callNn _ | .rst _ | .addXRp _ _ | .ldXNn _ _ => false
  | .ldIndNnX _ _ | .ldXIndNn _ _ | .incX _ | .decX _ | .incXHalf _ _ | .decXHalf _ _ | .ldXHalfN _ _ _ => false
  | .incIdx _ _ | .decIdx _ _ | .ldIdxN _ _ _ | .ldRRHalves _ _ _ | .ldRIdx _ _ _ | .ldIdxR _ _ _ => false
  | .addXHalf _ _ | .addIdx _ _ | .adcXHalf _ _ | .adcIdx _ _ | .subXHalf _ _ | .subIdx _ _ | .sbcXHalf _ _ => false
  | .sbcIdx _ _ | .andXHalf _ _ | .andIdx _ _ | .xorXHalf _ _ | .xorIdx _ _ | .orXHalf _ _ | .orIdx _ _ => false
  | .cpXHalf _ _ | .cpIdx _ _ | .popX _ | .exIndSpX _ | .pushX _ | .jpX _ | .ldSpX _ | .anyOther _ _ | .rlcR _ => false
  | .rlcIndHl | .rrcR _ | .rrcIndHl | .rlR _ | .rlIndHl | .rrR _ | .rrIndHl | .slaR _ | .slaIndHl | .sraR _ => false
  | .sraIndHl | .sllR _ | .sllIndHl | .srlR _ | .srlIndHl | .bitR _ _ | .bitIndHl _ | .resR _ _ | .resIndHl _ => false
  | .setR _ _ | .setIndHl _ | .rlcIdx _ _ | .rlcIdxR _ _ _ | .rrcIdx _ _ | .rrcIdxR _ _ _ | .rlIdx _ _ => false
  | .rlIdxR _ _ _ | .rrIdx _ _ | .rrIdxR _ _ _ | .slaIdx _ _ | .slaIdxR _ _ _ | .sraIdx _ _ | .sraIdxR _ _ _ => false
  | .sllIdx _ _ | .sllIdxR _ _ _ | .srlIdx _ _ | .srlIdxR _ _ _ | .bitIdx _ _ _ _ | .resIdx _ _ _ => false
  | .resIdxR _ _ _ _ | .setIdx _ _ _ | .setIdxR _ _ _ _ | .inRIndC _ | .inIndC | .outIndCR _ | .outIndC0 => false
  | .sbcHlRp _ | .adcHlRp _ | .ldIndNnRp _ _ | .ldRpIndNn _ _ | .neg _ | .retn _ | .reti | .im0 _ | .im1 _ => false
  | .im2 _ | .ldIA | .ldRegRA | .ldAI | .ldARegR | .rrd | .rld | .ldi | .ldd | .ldir | .lddr | .cpi | .cpd => false
  | .cpir | .cpdr | .ini | .ind | .inir | .indr | .outi | .outd | .otir | .otdr | .nopEd _ => false

end Sys2Proof
end

