-- ==== Sys2Proof/Decode.lean ====
section
/-! DEFINITION. The decoder and the encoder (30_encoding.md).

An opcode byte is read by its fields x, y, z, p, q (R127). Each decode context (R110) has its own function from the opcode
byte to a `Shape`: the instruction, or what it becomes once its operand bytes are read (the formats of R111). Every byte
has a shape in every context (R135, R602), so the decoder rejects one thing only, by name: too few bytes. The encoder writes
the bytes that the instruction's own context reads (without prefix bytes), from the same field tables. -/

namespace Sys2Proof

open Sys2Proof.Machine (hi lo word octVal)

/-! ### Fields -/

/-- The 3-bit field of `b` that starts at bit `k`. -/
def octAt (b : Byte) (k : Nat) : Oct :=
  match (b.toNat >>> k) % 8 with
  | 0 => .o0 | 1 => .o1 | 2 => .o2 | 3 => .o3 | 4 => .o4 | 5 => .o5 | 6 => .o6 | _ => .o7

/-- `y = b[5:3]` (R127). -/
def fieldY (b : Byte) : Oct := octAt b 3

/-- `z = b[2:0]` (R127). -/
def fieldZ (b : Byte) : Oct := octAt b 0

/-- `x = b[7:6]`, as a number below 4 (R127). -/
def fieldX (b : Byte) : Nat := b.toNat >>> 6

/-- `reg8(code)` (R120): code 110 is the memory operand, no register. -/
def reg8Of : Oct → Option Reg8
  | .o0 => some .b | .o1 => some .c | .o2 => some .d | .o3 => some .e
  | .o4 => some .h | .o5 => some .l | .o6 => none | .o7 => some .a

/-- The code of a register (R120). -/
def reg8Code : Reg8 → Oct
  | .b => .o0 | .c => .o1 | .d => .o2 | .e => .o3 | .h => .o4 | .l => .o5 | .a => .o7

/-- `rp(code)` at bits 5:4, read from y = p:q (R122, R127). -/
def pairOf : Oct → Pair
  | .o0 | .o1 => .bc | .o2 | .o3 => .de | .o4 | .o5 => .hl | .o6 | .o7 => .sp

/-- `rp2(code)` at bits 5:4, read from y = p:q (R123, R127). -/
def stackPairOf : Oct → StackPair
  | .o0 | .o1 => .bc | .o2 | .o3 => .de | .o4 | .o5 => .hl | .o6 | .o7 => .af

/-- `cond(code)` (R124). -/
def condOf : Oct → Cond
  | .o0 => .nz | .o1 => .z | .o2 => .nc | .o3 => .c | .o4 => .po | .o5 => .pe | .o6 => .p | .o7 => .m

/-! ### Shapes: the formats of R111 -/

/-- What an opcode byte stands for: an instruction, or a function of the operand bytes that follow it. -/
inductive Shape
  /-- Format `op`. -/
  | op (i : Instr)
  /-- Formats `op n`, `op e` and `op d`. -/
  | opN (f : Byte → Instr)
  /-- Format `op nn`, the low byte first. -/
  | opNn (f : Word → Instr)
  /-- Format `op d n`. -/
  | opDn (f : Byte → Byte → Instr)

/-- The same format with the instruction put into a context. -/
def Shape.map (g : Instr → Instr) : Shape → Shape
  | .op i => .op (g i)
  | .opN f => .opN fun n => g (f n)
  | .opNn f => .opNn fun nn => g (f nn)
  | .opDn f => .opDn fun d n => g (f d n)

/-! ### Context None (R129) -/

/-- `10ooosss` with a register operand (R125). -/
def aluROf : Oct → Reg8 → Instr
  | .o0 => .addR | .o1 => .adcR | .o2 => .subR | .o3 => .sbcR | .o4 => .andR | .o5 => .xorR | .o6 => .orR | .o7 => .cpR

/-- `10ooo110` (R125). -/
def aluIndHlOf : Oct → Instr
  | .o0 => .addIndHl | .o1 => .adcIndHl | .o2 => .subIndHl | .o3 => .sbcIndHl
  | .o4 => .andIndHl | .o5 => .xorIndHl | .o6 => .orIndHl | .o7 => .cpIndHl

/-- `11ooo110 n` (R125). -/
def aluNOf : Oct → Byte → Instr
  | .o0 => .addN | .o1 => .adcN | .o2 => .subN | .o3 => .sbcN | .o4 => .andN | .o5 => .xorN | .o6 => .orN | .o7 => .cpN

/-- The opcodes `00yyyzzz` of context None. -/
def shapePlain0 (y z : Oct) : Shape :=
  match z, y with
  | .o0, .o0 => .op .nop
  | .o0, .o1 => .op .exAfAf
  | .o0, .o2 => .opN .djnz
  | .o0, .o3 => .opN .jr
  | .o0, .o4 => .opN (.jrCc .nz)
  | .o0, .o5 => .opN (.jrCc .z)
  | .o0, .o6 => .opN (.jrCc .nc)
  | .o0, .o7 => .opN (.jrCc .c)
  | .o1, .o0 | .o1, .o2 | .o1, .o4 | .o1, .o6 => .opNn (.ldRpNn (pairOf y))
  | .o1, .o1 | .o1, .o3 | .o1, .o5 | .o1, .o7 => .op (.addHlRp (pairOf y))
  | .o2, .o0 => .op .ldIndBcA
  | .o2, .o1 => .op .ldAIndBc
  | .o2, .o2 => .op .ldIndDeA
  | .o2, .o3 => .op .ldAIndDe
  | .o2, .o4 => .opNn .ldIndNnHl
  | .o2, .o5 => .opNn .ldHlIndNn
  | .o2, .o6 => .opNn .ldIndNnA
  | .o2, .o7 => .opNn .ldAIndNn
  | .o3, .o0 | .o3, .o2 | .o3, .o4 | .o3, .o6 => .op (.incRp (pairOf y))
  | .o3, .o1 | .o3, .o3 | .o3, .o5 | .o3, .o7 => .op (.decRp (pairOf y))
  | .o4, _ => .op (match reg8Of y with | some r => .incR r | none => .incIndHl)
  | .o5, _ => .op (match reg8Of y with | some r => .decR r | none => .decIndHl)
  | .o6, _ => .opN (match reg8Of y with | some r => .ldRN r | none => .ldIndHlN)
  | .o7, .o0 => .op .rlca
  | .o7, .o1 => .op .rrca
  | .o7, .o2 => .op .rla
  | .o7, .o3 => .op .rra
  | .o7, .o4 => .op .daa
  | .o7, .o5 => .op .cpl
  | .o7, .o6 => .op .scf
  | .o7, .o7 => .op .ccf

/-- The opcodes `01yyyzzz` of context None: the loads and HALT. -/
def shapePlain1 (y z : Oct) : Shape :=
  match reg8Of y, reg8Of z with
  | some dst, some src => .op (.ldRR dst src)
  | some r, none => .op (.ldRIndHl r)
  | none, some r => .op (.ldIndHlR r)
  | none, none => .op .halt

/-- The opcodes `10yyyzzz` of context None: the ALU operations on a register or (HL). -/
def shapePlain2 (y z : Oct) : Shape :=
  match reg8Of z with
  | some r => .op (aluROf y r)
  | none => .op (aluIndHlOf y)

/-- The opcodes `11yyyzzz` of context None, the four prefix bytes among them (R114). -/
def shapePlain3 (y z : Oct) : Shape :=
  match z, y with
  | .o0, _ => .op (.retCc (condOf y))
  | .o1, .o0 | .o1, .o2 | .o1, .o4 | .o1, .o6 => .op (.popRp (stackPairOf y))
  | .o1, .o1 => .op .ret
  | .o1, .o3 => .op .exx
  | .o1, .o5 => .op .jpIndHl
  | .o1, .o7 => .op .ldSpHl
  | .o2, _ => .opNn (.jpCcNn (condOf y))
  | .o3, .o0 => .opNn .jpNn
  | .o3, .o1 => .op .cbPrefix
  | .o3, .o2 => .opN .outIndNA
  | .o3, .o3 => .opN .inAIndN
  | .o3, .o4 => .op .exIndSpHl
  | .o3, .o5 => .op .exDeHl
  | .o3, .o6 => .op .di
  | .o3, .o7 => .op .ei
  | .o4, _ => .opNn (.callCcNn (condOf y))
  | .o5, .o0 | .o5, .o2 | .o5, .o4 | .o5, .o6 => .op (.pushRp (stackPairOf y))
  | .o5, .o1 => .opNn .callNn
  | .o5, .o3 => .op .ddPrefix
  | .o5, .o5 => .op .edPrefix
  | .o5, .o7 => .op .fdPrefix
  | .o6, _ => .opN (aluNOf y)
  | .o7, _ => .op (.rst y)

/-- Context None (R129). -/
def shapePlain (op : Byte) : Shape :=
  match fieldX op with
  | 0 => shapePlain0 (fieldY op) (fieldZ op)
  | 1 => shapePlain1 (fieldY op) (fieldZ op)
  | 2 => shapePlain2 (fieldY op) (fieldZ op)
  | _ => shapePlain3 (fieldY op) (fieldZ op)

/-! ### Contexts IX and IY (R116, R133) -/

/-- `10ooo10q`: the ALU operations on an index half (R305). -/
def aluXHalfOf (x : Index) : Oct → Half → Instr
  | .o0 => .addXHalf x | .o1 => .adcXHalf x | .o2 => .subXHalf x | .o3 => .sbcXHalf x
  | .o4 => .andXHalf x | .o5 => .xorXHalf x | .o6 => .orXHalf x | .o7 => .cpXHalf x

/-- `10ooo110 d`: the ALU operations on (IXY+d) (R305). -/
def aluIdxOf (x : Index) : Oct → Byte → Instr
  | .o0 => .addIdx x | .o1 => .adcIdx x | .o2 => .subIdx x | .o3 => .sbcIdx x
  | .o4 => .andIdx x | .o5 => .xorIdx x | .o6 => .orIdx x | .o7 => .cpIdx x

/-- The rows of context IX|IY among `00yyyzzz`. -/
def shapeIndex0 (x : Index) (y z : Oct) : Option Shape :=
  match z, y with
  | .o1, .o4 => some (.opNn (.ldXNn x))
  | .o1, .o1 | .o1, .o3 | .o1, .o5 | .o1, .o7 => some (.op (.addXRp x (pairOf y)))
  | .o2, .o4 => some (.opNn (.ldIndNnX x))
  | .o2, .o5 => some (.opNn (.ldXIndNn x))
  | .o3, .o4 => some (.op (.incX x))
  | .o3, .o5 => some (.op (.decX x))
  | .o4, .o4 => some (.op (.incXHalf x .high))
  | .o4, .o5 => some (.op (.incXHalf x .low))
  | .o4, .o6 => some (.opN (.incIdx x))
  | .o5, .o4 => some (.op (.decXHalf x .high))
  | .o5, .o5 => some (.op (.decXHalf x .low))
  | .o5, .o6 => some (.opN (.decIdx x))
  | .o6, .o4 => some (.opN (.ldXHalfN x .high))
  | .o6, .o5 => some (.opN (.ldXHalfN x .low))
  | .o6, .o6 => some (.opDn (.ldIdxN x))
  | _, _ => none

/-- The rows of context IX|IY among `01yyyzzz`. -/
def shapeIndex1 (x : Index) (y z : Oct) : Option Shape :=
  match reg8Of y, reg8Of z with
  | some dst, some src => if dst.isHL || src.isHL then some (.op (.ldRRHalves x dst src)) else none
  | some r, none => some (.opN (.ldRIdx x r))
  | none, some r => some (.opN fun d => .ldIdxR x d r)
  | none, none => none

/-- The rows of context IX|IY among `10yyyzzz`. -/
def shapeIndex2 (x : Index) (y z : Oct) : Option Shape :=
  match z with
  | .o4 => some (.op (aluXHalfOf x y .high))
  | .o5 => some (.op (aluXHalfOf x y .low))
  | .o6 => some (.opN (aluIdxOf x y))
  | .o0 | .o1 | .o2 | .o3 | .o7 => none

/-- The rows of context IX|IY among `11yyyzzz`, the four prefix bytes among them (R114). -/
def shapeIndex3 (x : Index) (y z : Oct) : Option Shape :=
  match z, y with
  | .o1, .o4 => some (.op (.popX x))
  | .o1, .o5 => some (.op (.jpX x))
  | .o1, .o7 => some (.op (.ldSpX x))
  | .o3, .o1 => some (.op (.cbPrefixX x))
  | .o3, .o4 => some (.op (.exIndSpX x))
  | .o5, .o3 => some (.op (.ddPrefixX x))
  | .o5, .o4 => some (.op (.pushX x))
  | .o5, .o5 => some (.op (.edPrefixX x))
  | .o5, .o7 => some (.op (.fdPrefixX x))
  | _, _ => none

/-- The rows of context IX|IY, but for the fall-back (R133). -/
def shapeIndexRow (x : Index) (op : Byte) : Option Shape :=
  match fieldX op with
  | 0 => shapeIndex0 x (fieldY op) (fieldZ op)
  | 1 => shapeIndex1 x (fieldY op) (fieldZ op)
  | 2 => shapeIndex2 x (fieldY op) (fieldZ op)
  | _ => shapeIndex3 x (fieldY op) (fieldZ op)

/-- Contexts IX and IY: a row of their own, else the fall-back to context None (R115). -/
def shapeIndex (x : Index) (op : Byte) : Shape :=
  match shapeIndexRow x op with
  | some sh => sh
  | none => (shapePlain op).map (.anyOther x)

/-! ### Context CB (R131) -/

/-- `00ooozzz` with a register operand (R126). -/
def rotROf : Oct → Reg8 → Instr
  | .o0 => .rlcR | .o1 => .rrcR | .o2 => .rlR | .o3 => .rrR | .o4 => .slaR | .o5 => .sraR | .o6 => .sllR | .o7 => .srlR

/-- `00ooo110` (R126). -/
def rotIndHlOf : Oct → Instr
  | .o0 => .rlcIndHl | .o1 => .rrcIndHl | .o2 => .rlIndHl | .o3 => .rrIndHl
  | .o4 => .slaIndHl | .o5 => .sraIndHl | .o6 => .sllIndHl | .o7 => .srlIndHl

/-- Context CB (R131): no operand bytes. -/
def instrCb (op : Byte) : Instr :=
  match fieldX op, reg8Of (fieldZ op) with
  | 0, some r => rotROf (fieldY op) r
  | 0, none => rotIndHlOf (fieldY op)
  | 1, some r => .bitR (fieldY op) r
  | 1, none => .bitIndHl (fieldY op)
  | 2, some r => .resR (fieldY op) r
  | 2, none => .resIndHl (fieldY op)
  | _, some r => .setR (fieldY op) r
  | _, none => .setIndHl (fieldY op)

/-! ### Contexts IXCB and IYCB (R118, R121, R134) -/

/-- `d 00ooo110` (R126). -/
def rotIdxOf (x : Index) (d : Byte) : Oct → Instr
  | .o0 => .rlcIdx x d | .o1 => .rrcIdx x d | .o2 => .rlIdx x d | .o3 => .rrIdx x d
  | .o4 => .slaIdx x d | .o5 => .sraIdx x d | .o6 => .sllIdx x d | .o7 => .srlIdx x d

/-- `d 00ooorrr`, with the copy to a register (R121, R126). -/
def rotIdxROf (x : Index) (d : Byte) : Oct → Reg8 → Instr
  | .o0 => .rlcIdxR x d | .o1 => .rrcIdxR x d | .o2 => .rlIdxR x d | .o3 => .rrIdxR x d
  | .o4 => .slaIdxR x d | .o5 => .sraIdxR x d | .o6 => .sllIdxR x d | .o7 => .srlIdxR x d

/-- Contexts IXCB and IYCB: the displacement is read before the opcode byte (R118). -/
def instrIndexCb (x : Index) (d op : Byte) : Instr :=
  match fieldX op, reg8Of (fieldZ op) with
  | 0, some r => rotIdxROf x d (fieldY op) r
  | 0, none => rotIdxOf x d (fieldY op)
  | 1, _ => .bitIdx x d (fieldY op) (fieldZ op)
  | 2, some r => .resIdxR x d (fieldY op) r
  | 2, none => .resIdx x d (fieldY op)
  | _, some r => .setIdxR x d (fieldY op) r
  | _, none => .setIdx x d (fieldY op)

/-! ### Context ED (R132) -/

/-- The opcodes `01yyyzzz` of context ED; `op` is the whole byte, for the two undefined ones (77 and 7F). -/
def shapeEd1 (op : Byte) (y z : Oct) : Shape :=
  match z, y with
  | .o0, _ => .op (match reg8Of y with | some r => .inRIndC r | none => .inIndC)
  | .o1, _ => .op (match reg8Of y with | some r => .outIndCR r | none => .outIndC0)
  | .o2, .o0 | .o2, .o2 | .o2, .o4 | .o2, .o6 => .op (.sbcHlRp (pairOf y))
  | .o2, .o1 | .o2, .o3 | .o2, .o5 | .o2, .o7 => .op (.adcHlRp (pairOf y))
  | .o3, .o0 | .o3, .o2 | .o3, .o4 | .o3, .o6 => .opNn (.ldIndNnRp (pairOf y))
  | .o3, .o1 | .o3, .o3 | .o3, .o5 | .o3, .o7 => .opNn (.ldRpIndNn (pairOf y))
  | .o4, _ => .op (.neg y)
  | .o5, .o1 => .op .reti
  | .o5, _ => .op (.retn y)
  | .o6, .o0 | .o6, .o1 | .o6, .o4 | .o6, .o5 => .op (.im0 y)
  | .o6, .o2 | .o6, .o6 => .op (.im1 y)
  | .o6, .o3 | .o6, .o7 => .op (.im2 y)
  | .o7, .o0 => .op .ldIA
  | .o7, .o1 => .op .ldRegRA
  | .o7, .o2 => .op .ldAI
  | .o7, .o3 => .op .ldARegR
  | .o7, .o4 => .op .rrd
  | .o7, .o5 => .op .rld
  | .o7, .o6 | .o7, .o7 => .op (.nopEd op)

/-- The opcodes `10yyyzzz` of context ED: the block instructions, and undefined opcodes. -/
def shapeEd2 (op : Byte) (y z : Oct) : Shape :=
  match y, z with
  | .o4, .o0 => .op .ldi
  | .o5, .o0 => .op .ldd
  | .o6, .o0 => .op .ldir
  | .o7, .o0 => .op .lddr
  | .o4, .o1 => .op .cpi
  | .o5, .o1 => .op .cpd
  | .o6, .o1 => .op .cpir
  | .o7, .o1 => .op .cpdr
  | .o4, .o2 => .op .ini
  | .o5, .o2 => .op .ind
  | .o6, .o2 => .op .inir
  | .o7, .o2 => .op .indr
  | .o4, .o3 => .op .outi
  | .o5, .o3 => .op .outd
  | .o6, .o3 => .op .otir
  | .o7, .o3 => .op .otdr
  | _, _ => .op (.nopEd op)

/-- Context ED (R132). -/
def shapeEd (op : Byte) : Shape :=
  match fieldX op with
  | 1 => shapeEd1 op (fieldY op) (fieldZ op)
  | 2 => shapeEd2 op (fieldY op) (fieldZ op)
  | _ => .op (.nopEd op)

/-! ### The decoder -/

/-- Why bytes were rejected. -/
inductive DecodeError
  /-- Fewer bytes than the instruction has. -/
  | truncated
  deriving DecidableEq, Repr

/-- The shape of an opcode byte in a context that begins with one (R110). In IXCB and IYCB the displacement `d` is already read. -/
def shapeIn (c : Context) (d op : Byte) : Shape :=
  match c with
  | .plain => shapePlain op
  | .cb => .op (instrCb op)
  | .ed => shapeEd op
  | .index x => shapeIndex x op
  | .indexCb x => .op (instrIndexCb x d op)

/-- Read the operand bytes of a format, in the order they stand (R113); the rest is handed back. -/
def Shape.operands : Shape → List Byte → Except DecodeError (Instr × List Byte)
  | .op i, bs => .ok (i, bs)
  | .opN f, n :: bs => .ok (f n, bs)
  | .opNn f, l :: h :: bs => .ok (f (word h l), bs)
  | .opDn f, d :: n :: bs => .ok (f d n, bs)
  | .opN _, [] | .opNn _, [] | .opNn _, [_] | .opDn _, [] | .opDn _, [_] => .error .truncated

/-- The decoder: the instruction that the bytes of context `c` begin with, and the bytes after it. -/
def decodeIn (c : Context) (bs : List Byte) : Except DecodeError (Instr × List Byte) :=
  match c, bs with
  | .indexCb x, d :: op :: rest => (shapeIn (.indexCb x) d op).operands rest
  | .indexCb _, _ => .error .truncated
  | c, op :: rest => (shapeIn c 0 op).operands rest
  | _, [] => .error .truncated

/-- The four bytes of a table word: bit 0 is the least significant bit of the first byte. Bits at `nbits` and above are 0. -/
def tableBytes (nbits w : Nat) : List Byte :=
  let v := w % 2 ^ nbits
  [BitVec.ofNat 8 v, BitVec.ofNat 8 (v >>> 8), BitVec.ofNat 8 (v >>> 16), BitVec.ofNat 8 (v >>> 24)]

/-- The instruction that the decoder reads from a table word. A table word carries no context, so it is read in context
None, the context of the first step after reset (70_reset_and_hazards.md R704; log entry 9). -/
def decodeTableWord (nbits w : Nat) : Option Instr :=
  match decodeIn .plain (tableBytes nbits w) with
  | .ok (i, _) => some i
  | .error _ => none

/-! ### The encoder -/

/-- An opcode byte from its fields: `x * 64 + y * 8 + z` (R127). -/
def opcode (x : Nat) (y z : Oct) : Byte := BitVec.ofNat 8 (x * 64 + octVal y * 8 + octVal z)

/-- An opcode byte with a pair field: `p` at bits 5:4, `q` at bit 3 (R122, R127). -/
def pairOpcode (x : Nat) (p : Pair) (q : Nat) (z : Oct) : Byte :=
  BitVec.ofNat 8 (x * 64 + (match p with | .bc => 0 | .de => 16 | .hl => 32 | .sp => 48) + q * 8 + octVal z)

/-- The opcode byte of PUSH and POP: `11pp0z..` with `rp2` at bits 5:4 (R123). -/
def stackOpcode (q : StackPair) (z : Oct) : Byte :=
  BitVec.ofNat 8 (192 + (match q with | .bc => 0 | .de => 16 | .hl => 32 | .af => 48) + octVal z)

/-- The code of a condition (R124). -/
def condCode : Cond → Oct
  | .nz => .o0 | .z => .o1 | .nc => .o2 | .c => .o3 | .po => .o4 | .pe => .o5 | .p => .o6 | .m => .o7

/-- The y field of a JR condition: the 2-bit code plus 4 (R124, 47_control.md R423). -/
def jrCode : JrCond → Oct
  | .nz => .o4 | .z => .o5 | .nc => .o6 | .c => .o7

/-- The code of an index half: 100 or 101 (R120). -/
def halfCode : Half → Oct
  | .high => .o4 | .low => .o5

/-- The immediate word as it stands in memory, low byte first (R113). -/
def wordBytes (nn : Word) : List Byte := [lo nn, hi nn]

/-- The context in which the instruction is read (R110). -/
def Instr.context : Instr → Context
  | .nop | .exAfAf | .djnz _ | .jr _ | .jrCc _ _ | .ldRpNn _ _ | .addHlRp _ | .ldIndBcA | .ldIndDeA => .plain
  | .ldIndNnHl _ | .ldIndNnA _ | .ldAIndBc | .ldAIndDe | .ldHlIndNn _ | .ldAIndNn _ | .incRp _ | .decRp _ => .plain
  | .incR _ | .incIndHl | .decR _ | .decIndHl | .ldRN _ _ | .ldIndHlN _ | .rlca | .rrca | .rla | .rra | .daa => .plain
  | .cpl | .scf | .ccf | .ldRR _ _ | .ldRIndHl _ | .ldIndHlR _ | .halt | .addR _ | .addIndHl | .addN _ | .adcR _ => .plain
  | .adcIndHl | .adcN _ | .subR _ | .subIndHl | .subN _ | .sbcR _ | .sbcIndHl | .sbcN _ | .andR _ | .andIndHl => .plain
  | .andN _ | .xorR _ | .xorIndHl | .xorN _ | .orR _ | .orIndHl | .orN _ | .cpR _ | .cpIndHl | .cpN _ | .retCc _ => .plain
  | .popRp _ | .ret | .exx | .jpIndHl | .ldSpHl | .jpCcNn _ _ | .jpNn _ | .cbPrefix | .outIndNA _ | .inAIndN _ => .plain
  | .exIndSpHl | .exDeHl | .di | .ei | .callCcNn _ _ | .pushRp _ | .callNn _ | .ddPrefix | .edPrefix | .fdPrefix => .plain
  | .rst _ => .plain
  | .addXRp x _ | .ldXNn x _ | .ldIndNnX x _ | .ldXIndNn x _ | .incX x | .decX x | .incXHalf x _ | .decXHalf x _ => .index x
  | .ldXHalfN x _ _ | .incIdx x _ | .decIdx x _ | .ldIdxN x _ _ | .ldRRHalves x _ _ | .ldRIdx x _ _ => .index x
  | .ldIdxR x _ _ | .addXHalf x _ | .addIdx x _ | .adcXHalf x _ | .adcIdx x _ | .subXHalf x _ | .subIdx x _ => .index x
  | .sbcXHalf x _ | .sbcIdx x _ | .andXHalf x _ | .andIdx x _ | .xorXHalf x _ | .xorIdx x _ | .orXHalf x _ => .index x
  | .orIdx x _ | .cpXHalf x _ | .cpIdx x _ | .popX x | .exIndSpX x | .pushX x | .jpX x | .ldSpX x | .cbPrefixX x => .index x
  | .ddPrefixX x | .edPrefixX x | .fdPrefixX x | .anyOther x _ => .index x
  | .rlcR _ | .rlcIndHl | .rrcR _ | .rrcIndHl | .rlR _ | .rlIndHl | .rrR _ | .rrIndHl | .slaR _ | .slaIndHl => .cb
  | .sraR _ | .sraIndHl | .sllR _ | .sllIndHl | .srlR _ | .srlIndHl | .bitR _ _ | .bitIndHl _ | .resR _ _ => .cb
  | .resIndHl _ | .setR _ _ | .setIndHl _ => .cb
  | .rlcIdx x _ | .rlcIdxR x _ _ | .rrcIdx x _ | .rrcIdxR x _ _ | .rlIdx x _ | .rlIdxR x _ _ | .rrIdx x _ => .indexCb x
  | .rrIdxR x _ _ | .slaIdx x _ | .slaIdxR x _ _ | .sraIdx x _ | .sraIdxR x _ _ | .sllIdx x _ | .sllIdxR x _ _ => .indexCb x
  | .srlIdx x _ | .srlIdxR x _ _ | .bitIdx x _ _ _ | .resIdx x _ _ | .resIdxR x _ _ _ | .setIdx x _ _ => .indexCb x
  | .setIdxR x _ _ _ => .indexCb x
  | .inRIndC _ | .inIndC | .outIndCR _ | .outIndC0 | .sbcHlRp _ | .adcHlRp _ | .ldIndNnRp _ _ | .ldRpIndNn _ _ => .ed
  | .neg _ | .retn _ | .reti | .im0 _ | .im1 _ | .im2 _ | .ldIA | .ldRegRA | .ldAI | .ldARegR | .rrd | .rld => .ed
  | .ldi | .ldd | .ldir | .lddr | .cpi | .cpd | .cpir | .cpdr | .ini | .ind | .inir | .indr | .outi | .outd => .ed
  | .otir | .otdr | .nopEd _ => .ed

/-- The prefix bytes of a context (R111, R114). -/
def Context.bytes : Context → List Byte
  | .plain => []
  | .cb => [0xCB]
  | .ed => [0xED]
  | .index .ix => [0xDD]
  | .index .iy => [0xFD]
  | .indexCb .ix => [0xDD, 0xCB]
  | .indexCb .iy => [0xFD, 0xCB]

/-- The bytes that the instruction's own context reads for it (R111 to R134), without its prefix bytes. -/
def encode : Instr → List Byte
  | .nop => [0x00]
  | .exAfAf => [0x08]
  | .djnz e => [0x10, e]
  | .jr e => [0x18, e]
  | .jrCc cc e => [opcode 0 (jrCode cc) .o0, e]
  | .ldRpNn p nn => pairOpcode 0 p 0 .o1 :: wordBytes nn
  | .addHlRp p => [pairOpcode 0 p 1 .o1]
  | .ldIndBcA => [0x02]
  | .ldIndDeA => [0x12]
  | .ldIndNnHl nn => 0x22 :: wordBytes nn
  | .ldIndNnA nn => 0x32 :: wordBytes nn
  | .ldAIndBc => [0x0A]
  | .ldAIndDe => [0x1A]
  | .ldHlIndNn nn => 0x2A :: wordBytes nn
  | .ldAIndNn nn => 0x3A :: wordBytes nn
  | .incRp p => [pairOpcode 0 p 0 .o3]
  | .decRp p => [pairOpcode 0 p 1 .o3]
  | .incR r => [opcode 0 (reg8Code r) .o4]
  | .incIndHl => [0x34]
  | .decR r => [opcode 0 (reg8Code r) .o5]
  | .decIndHl => [0x35]
  | .ldRN r n => [opcode 0 (reg8Code r) .o6, n]
  | .ldIndHlN n => [0x36, n]
  | .rlca => [0x07]
  | .rrca => [0x0F]
  | .rla => [0x17]
  | .rra => [0x1F]
  | .daa => [0x27]
  | .cpl => [0x2F]
  | .scf => [0x37]
  | .ccf => [0x3F]
  | .ldRR dst src => [opcode 1 (reg8Code dst) (reg8Code src)]
  | .ldRIndHl r => [opcode 1 (reg8Code r) .o6]
  | .ldIndHlR r => [opcode 1 .o6 (reg8Code r)]
  | .halt => [0x76]
  | .addR r => [opcode 2 .o0 (reg8Code r)]
  | .addIndHl => [0x86]
  | .addN n => [0xC6, n]
  | .adcR r => [opcode 2 .o1 (reg8Code r)]
  | .adcIndHl => [0x8E]
  | .adcN n => [0xCE, n]
  | .subR r => [opcode 2 .o2 (reg8Code r)]
  | .subIndHl => [0x96]
  | .subN n => [0xD6, n]
  | .sbcR r => [opcode 2 .o3 (reg8Code r)]
  | .sbcIndHl => [0x9E]
  | .sbcN n => [0xDE, n]
  | .andR r => [opcode 2 .o4 (reg8Code r)]
  | .andIndHl => [0xA6]
  | .andN n => [0xE6, n]
  | .xorR r => [opcode 2 .o5 (reg8Code r)]
  | .xorIndHl => [0xAE]
  | .xorN n => [0xEE, n]
  | .orR r => [opcode 2 .o6 (reg8Code r)]
  | .orIndHl => [0xB6]
  | .orN n => [0xF6, n]
  | .cpR r => [opcode 2 .o7 (reg8Code r)]
  | .cpIndHl => [0xBE]
  | .cpN n => [0xFE, n]
  | .retCc cc => [opcode 3 (condCode cc) .o0]
  | .popRp q => [stackOpcode q .o1]
  | .ret => [0xC9]
  | .exx => [0xD9]
  | .jpIndHl => [0xE9]
  | .ldSpHl => [0xF9]
  | .jpCcNn cc nn => opcode 3 (condCode cc) .o2 :: wordBytes nn
  | .jpNn nn => 0xC3 :: wordBytes nn
  | .cbPrefix => [0xCB]
  | .outIndNA n => [0xD3, n]
  | .inAIndN n => [0xDB, n]
  | .exIndSpHl => [0xE3]
  | .exDeHl => [0xEB]
  | .di => [0xF3]
  | .ei => [0xFB]
  | .callCcNn cc nn => opcode 3 (condCode cc) .o4 :: wordBytes nn
  | .pushRp q => [stackOpcode q .o5]
  | .callNn nn => 0xCD :: wordBytes nn
  | .ddPrefix => [0xDD]
  | .edPrefix => [0xED]
  | .fdPrefix => [0xFD]
  | .rst y => [opcode 3 y .o7]
  | .addXRp _ p => [pairOpcode 0 p 1 .o1]
  | .ldXNn _ nn => 0x21 :: wordBytes nn
  | .ldIndNnX _ nn => 0x22 :: wordBytes nn
  | .ldXIndNn _ nn => 0x2A :: wordBytes nn
  | .incX _ => [0x23]
  | .decX _ => [0x2B]
  | .incXHalf _ q => [opcode 0 (halfCode q) .o4]
  | .decXHalf _ q => [opcode 0 (halfCode q) .o5]
  | .ldXHalfN _ q n => [opcode 0 (halfCode q) .o6, n]
  | .incIdx _ d => [0x34, d]
  | .decIdx _ d => [0x35, d]
  | .ldIdxN _ d n => [0x36, d, n]
  | .ldRRHalves _ dst src => [opcode 1 (reg8Code dst) (reg8Code src)]
  | .ldRIdx _ r d => [opcode 1 (reg8Code r) .o6, d]
  | .ldIdxR _ d r => [opcode 1 .o6 (reg8Code r), d]
  | .addXHalf _ q => [opcode 2 .o0 (halfCode q)]
  | .addIdx _ d => [0x86, d]
  | .adcXHalf _ q => [opcode 2 .o1 (halfCode q)]
  | .adcIdx _ d => [0x8E, d]
  | .subXHalf _ q => [opcode 2 .o2 (halfCode q)]
  | .subIdx _ d => [0x96, d]
  | .sbcXHalf _ q => [opcode 2 .o3 (halfCode q)]
  | .sbcIdx _ d => [0x9E, d]
  | .andXHalf _ q => [opcode 2 .o4 (halfCode q)]
  | .andIdx _ d => [0xA6, d]
  | .xorXHalf _ q => [opcode 2 .o5 (halfCode q)]
  | .xorIdx _ d => [0xAE, d]
  | .orXHalf _ q => [opcode 2 .o6 (halfCode q)]
  | .orIdx _ d => [0xB6, d]
  | .cpXHalf _ q => [opcode 2 .o7 (halfCode q)]
  | .cpIdx _ d => [0xBE, d]
  | .popX _ => [0xE1]
  | .exIndSpX _ => [0xE3]
  | .pushX _ => [0xE5]
  | .jpX _ => [0xE9]
  | .ldSpX _ => [0xF9]
  | .cbPrefixX _ => [0xCB]
  | .ddPrefixX _ => [0xDD]
  | .edPrefixX _ => [0xED]
  | .fdPrefixX _ => [0xFD]
  | .anyOther _ j => encode j
  | .rlcR r => [opcode 0 .o0 (reg8Code r)]
  | .rlcIndHl => [0x06]
  | .rrcR r => [opcode 0 .o1 (reg8Code r)]
  | .rrcIndHl => [0x0E]
  | .rlR r => [opcode 0 .o2 (reg8Code r)]
  | .rlIndHl => [0x16]
  | .rrR r => [opcode 0 .o3 (reg8Code r)]
  | .rrIndHl => [0x1E]
  | .slaR r => [opcode 0 .o4 (reg8Code r)]
  | .slaIndHl => [0x26]
  | .sraR r => [opcode 0 .o5 (reg8Code r)]
  | .sraIndHl => [0x2E]
  | .sllR r => [opcode 0 .o6 (reg8Code r)]
  | .sllIndHl => [0x36]
  | .srlR r => [opcode 0 .o7 (reg8Code r)]
  | .srlIndHl => [0x3E]
  | .bitR b r => [opcode 1 b (reg8Code r)]
  | .bitIndHl b => [opcode 1 b .o6]
  | .resR b r => [opcode 2 b (reg8Code r)]
  | .resIndHl b => [opcode 2 b .o6]
  | .setR b r => [opcode 3 b (reg8Code r)]
  | .setIndHl b => [opcode 3 b .o6]
  | .rlcIdx _ d => [d, 0x06]
  | .rlcIdxR _ d r => [d, opcode 0 .o0 (reg8Code r)]
  | .rrcIdx _ d => [d, 0x0E]
  | .rrcIdxR _ d r => [d, opcode 0 .o1 (reg8Code r)]
  | .rlIdx _ d => [d, 0x16]
  | .rlIdxR _ d r => [d, opcode 0 .o2 (reg8Code r)]
  | .rrIdx _ d => [d, 0x1E]
  | .rrIdxR _ d r => [d, opcode 0 .o3 (reg8Code r)]
  | .slaIdx _ d => [d, 0x26]
  | .slaIdxR _ d r => [d, opcode 0 .o4 (reg8Code r)]
  | .sraIdx _ d => [d, 0x2E]
  | .sraIdxR _ d r => [d, opcode 0 .o5 (reg8Code r)]
  | .sllIdx _ d => [d, 0x36]
  | .sllIdxR _ d r => [d, opcode 0 .o6 (reg8Code r)]
  | .srlIdx _ d => [d, 0x3E]
  | .srlIdxR _ d r => [d, opcode 0 .o7 (reg8Code r)]
  | .bitIdx _ d b z => [d, opcode 1 b z]
  | .resIdx _ d b => [d, opcode 2 b .o6]
  | .resIdxR _ d b r => [d, opcode 2 b (reg8Code r)]
  | .setIdx _ d b => [d, opcode 3 b .o6]
  | .setIdxR _ d b r => [d, opcode 3 b (reg8Code r)]
  | .inRIndC r => [opcode 1 (reg8Code r) .o0]
  | .inIndC => [0x70]
  | .outIndCR r => [opcode 1 (reg8Code r) .o1]
  | .outIndC0 => [0x71]
  | .sbcHlRp p => [pairOpcode 1 p 0 .o2]
  | .adcHlRp p => [pairOpcode 1 p 1 .o2]
  | .ldIndNnRp p nn => pairOpcode 1 p 0 .o3 :: wordBytes nn
  | .ldRpIndNn p nn => pairOpcode 1 p 1 .o3 :: wordBytes nn
  | .neg y => [opcode 1 y .o4]
  | .retn y => [opcode 1 y .o5]
  | .reti => [0x4D]
  | .im0 y => [opcode 1 y .o6]
  | .im1 y => [opcode 1 y .o6]
  | .im2 y => [opcode 1 y .o6]
  | .ldIA => [0x47]
  | .ldRegRA => [0x4F]
  | .ldAI => [0x57]
  | .ldARegR => [0x5F]
  | .rrd => [0x67]
  | .rld => [0x6F]
  | .ldi => [0xA0]
  | .ldd => [0xA8]
  | .ldir => [0xB0]
  | .lddr => [0xB8]
  | .cpi => [0xA1]
  | .cpd => [0xA9]
  | .cpir => [0xB1]
  | .cpdr => [0xB9]
  | .ini => [0xA2]
  | .ind => [0xAA]
  | .inir => [0xB2]
  | .indr => [0xBA]
  | .outi => [0xA3]
  | .outd => [0xAB]
  | .otir => [0xB3]
  | .otdr => [0xBB]
  | .nopEd op => [op]

/-- The whole instruction as it stands in memory: its prefix bytes, then `encode`. -/
def Instr.bytes (i : Instr) : List Byte := i.context.bytes ++ encode i

/-! ### One word for each constructor, written out from the spec's encodings

The bytes are those of opcode_table.json's `encoding` column and of the worked examples of the rules; each list is one context. -/

/-- Do the bytes decode in the context, to the last one, to the instruction, and does the encoder give the bytes back? -/
def readsAs (c : Context) (bs : List Byte) (i : Instr) : Bool :=
  decodeIn c bs == .ok (i, []) && encode i == bs && i.context == c && i.wf

theorem plain_words_1 : (
    readsAs (.plain) [0x00] (.nop) &&
    readsAs (.plain) [0x08] (.exAfAf) &&
    readsAs (.plain) [0x10, 0x96] (.djnz 0x96) &&
    readsAs (.plain) [0x18, 0x9D] (.jr 0x9D) &&
    readsAs (.plain) [0x28, 0xA4] (.jrCc .z 0xA4) &&
    readsAs (.plain) [0x21, 0x3A, 0x18] (.ldRpNn .hl 0x183A) &&
    readsAs (.plain) [0x39] (.addHlRp .sp) &&
    readsAs (.plain) [0x02] (.ldIndBcA) &&
    readsAs (.plain) [0x12] (.ldIndDeA) &&
    readsAs (.plain) [0x22, 0x3E, 0x1C] (.ldIndNnHl 0x1C3E) &&
    readsAs (.plain) [0x32, 0x3F, 0x1D] (.ldIndNnA 0x1D3F) &&
    readsAs (.plain) [0x0A] (.ldAIndBc)) = true := by decide +kernel

theorem plain_words_2 : (
    readsAs (.plain) [0x1A] (.ldAIndDe) &&
    readsAs (.plain) [0x2A, 0x42, 0x20] (.ldHlIndNn 0x2042) &&
    readsAs (.plain) [0x3A, 0x43, 0x21] (.ldAIndNn 0x2143) &&
    readsAs (.plain) [0x03] (.incRp .bc) &&
    readsAs (.plain) [0x1B] (.decRp .de) &&
    readsAs (.plain) [0x3C] (.incR .a) &&
    readsAs (.plain) [0x34] (.incIndHl) &&
    readsAs (.plain) [0x2D] (.decR .l) &&
    readsAs (.plain) [0x35] (.decIndHl) &&
    readsAs (.plain) [0x0E, 0x1B] (.ldRN .c 0x1B) &&
    readsAs (.plain) [0x36, 0x22] (.ldIndHlN 0x22) &&
    readsAs (.plain) [0x07] (.rlca)) = true := by decide +kernel

theorem plain_words_3 : (
    readsAs (.plain) [0x0F] (.rrca) &&
    readsAs (.plain) [0x17] (.rla) &&
    readsAs (.plain) [0x1F] (.rra) &&
    readsAs (.plain) [0x27] (.daa) &&
    readsAs (.plain) [0x2F] (.cpl) &&
    readsAs (.plain) [0x37] (.scf) &&
    readsAs (.plain) [0x3F] (.ccf) &&
    readsAs (.plain) [0x78] (.ldRR .a .b) &&
    readsAs (.plain) [0x66] (.ldRIndHl .h) &&
    readsAs (.plain) [0x75] (.ldIndHlR .l) &&
    readsAs (.plain) [0x76] (.halt) &&
    readsAs (.plain) [0x81] (.addR .c)) = true := by decide +kernel

theorem plain_words_4 : (
    readsAs (.plain) [0x86] (.addIndHl) &&
    readsAs (.plain) [0xC6, 0x8B] (.addN 0x8B) &&
    readsAs (.plain) [0x8F] (.adcR .a) &&
    readsAs (.plain) [0x8E] (.adcIndHl) &&
    readsAs (.plain) [0xCE, 0xA0] (.adcN 0xA0) &&
    readsAs (.plain) [0x90] (.subR .b) &&
    readsAs (.plain) [0x96] (.subIndHl) &&
    readsAs (.plain) [0xD6, 0xB5] (.subN 0xB5) &&
    readsAs (.plain) [0x9B] (.sbcR .e) &&
    readsAs (.plain) [0x9E] (.sbcIndHl) &&
    readsAs (.plain) [0xDE, 0xCA] (.sbcN 0xCA) &&
    readsAs (.plain) [0xA5] (.andR .l)) = true := by decide +kernel

theorem plain_words_5 : (
    readsAs (.plain) [0xA6] (.andIndHl) &&
    readsAs (.plain) [0xE6, 0xDF] (.andN 0xDF) &&
    readsAs (.plain) [0xAA] (.xorR .d) &&
    readsAs (.plain) [0xAE] (.xorIndHl) &&
    readsAs (.plain) [0xEE, 0xF4] (.xorN 0xF4) &&
    readsAs (.plain) [0xB4] (.orR .h) &&
    readsAs (.plain) [0xB6] (.orIndHl) &&
    readsAs (.plain) [0xF6, 0x09] (.orN 0x09) &&
    readsAs (.plain) [0xB9] (.cpR .c) &&
    readsAs (.plain) [0xBE] (.cpIndHl) &&
    readsAs (.plain) [0xFE, 0x1E] (.cpN 0x1E) &&
    readsAs (.plain) [0xE0] (.retCc .po)) = true := by decide +kernel

theorem plain_words_6 : (
    readsAs (.plain) [0xD1] (.popRp .de) &&
    readsAs (.plain) [0xC9] (.ret) &&
    readsAs (.plain) [0xD9] (.exx) &&
    readsAs (.plain) [0xE9] (.jpIndHl) &&
    readsAs (.plain) [0xF9] (.ldSpHl) &&
    readsAs (.plain) [0xD2, 0x76, 0x54] (.jpCcNn .nc 0x5476) &&
    readsAs (.plain) [0xC3, 0x77, 0x55] (.jpNn 0x5577) &&
    readsAs (.plain) [0xCB] (.cbPrefix) &&
    readsAs (.plain) [0xD3, 0x64] (.outIndNA 0x64) &&
    readsAs (.plain) [0xDB, 0x6B] (.inAIndN 0x6B) &&
    readsAs (.plain) [0xE3] (.exIndSpHl) &&
    readsAs (.plain) [0xEB] (.exDeHl)) = true := by decide +kernel

theorem plain_words_7 : (
    readsAs (.plain) [0xF3] (.di) &&
    readsAs (.plain) [0xFB] (.ei) &&
    readsAs (.plain) [0xDC, 0x7F, 0x5D] (.callCcNn .c 0x5D7F) &&
    readsAs (.plain) [0xC5] (.pushRp .bc) &&
    readsAs (.plain) [0xCD, 0x81, 0x5F] (.callNn 0x5F81) &&
    readsAs (.plain) [0xDD] (.ddPrefix) &&
    readsAs (.plain) [0xED] (.edPrefix) &&
    readsAs (.plain) [0xFD] (.fdPrefix) &&
    readsAs (.plain) [0xDF] (.rst .o3)) = true := by decide +kernel

theorem index_words_1 : (
    readsAs (.index .ix) [0x29] (.addXRp .ix .hl) &&
    readsAs (.index .iy) [0x21, 0x87, 0x65] (.ldXNn .iy 0x6587) &&
    readsAs (.index .ix) [0x22, 0x88, 0x66] (.ldIndNnX .ix 0x6688) &&
    readsAs (.index .iy) [0x2A, 0x89, 0x67] (.ldXIndNn .iy 0x6789) &&
    readsAs (.index .ix) [0x23] (.incX .ix) &&
    readsAs (.index .iy) [0x2B] (.decX .iy) &&
    readsAs (.index .ix) [0x24] (.incXHalf .ix .high) &&
    readsAs (.index .iy) [0x2D] (.decXHalf .iy .low) &&
    readsAs (.index .ix) [0x26, 0xF7] (.ldXHalfN .ix .high 0xF7) &&
    readsAs (.index .iy) [0x34, 0xFE] (.incIdx .iy 0xFE) &&
    readsAs (.index .ix) [0x35, 0x05] (.decIdx .ix 0x05) &&
    readsAs (.index .iy) [0x36, 0x0C, 0x0C] (.ldIdxN .iy 0x0C 0x0C)) = true := by decide +kernel

theorem index_words_2 : (
    readsAs (.index .ix) [0x7D] (.ldRRHalves .ix .a .l) &&
    readsAs (.index .iy) [0x7E, 0x1A] (.ldRIdx .iy .a 0x1A) &&
    readsAs (.index .ix) [0x74, 0x21] (.ldIdxR .ix 0x21 .h) &&
    readsAs (.index .iy) [0x85] (.addXHalf .iy .low) &&
    readsAs (.index .ix) [0x86, 0x2F] (.addIdx .ix 0x2F) &&
    readsAs (.index .iy) [0x8D] (.adcXHalf .iy .low) &&
    readsAs (.index .ix) [0x8E, 0x3D] (.adcIdx .ix 0x3D) &&
    readsAs (.index .iy) [0x95] (.subXHalf .iy .low) &&
    readsAs (.index .ix) [0x96, 0x4B] (.subIdx .ix 0x4B) &&
    readsAs (.index .iy) [0x9D] (.sbcXHalf .iy .low) &&
    readsAs (.index .ix) [0x9E, 0x59] (.sbcIdx .ix 0x59) &&
    readsAs (.index .iy) [0xA5] (.andXHalf .iy .low)) = true := by decide +kernel

theorem index_words_3 : (
    readsAs (.index .ix) [0xA6, 0x67] (.andIdx .ix 0x67) &&
    readsAs (.index .iy) [0xAD] (.xorXHalf .iy .low) &&
    readsAs (.index .ix) [0xAE, 0x75] (.xorIdx .ix 0x75) &&
    readsAs (.index .iy) [0xB5] (.orXHalf .iy .low) &&
    readsAs (.index .ix) [0xB6, 0x83] (.orIdx .ix 0x83) &&
    readsAs (.index .iy) [0xBD] (.cpXHalf .iy .low) &&
    readsAs (.index .ix) [0xBE, 0x91] (.cpIdx .ix 0x91) &&
    readsAs (.index .iy) [0xE1] (.popX .iy) &&
    readsAs (.index .ix) [0xE3] (.exIndSpX .ix) &&
    readsAs (.index .iy) [0xE5] (.pushX .iy) &&
    readsAs (.index .ix) [0xE9] (.jpX .ix) &&
    readsAs (.index .iy) [0xF9] (.ldSpX .iy)) = true := by decide +kernel

theorem index_words_4 : (
    readsAs (.index .ix) [0xCB] (.cbPrefixX .ix) &&
    readsAs (.index .iy) [0xDD] (.ddPrefixX .iy) &&
    readsAs (.index .ix) [0xED] (.edPrefixX .ix) &&
    readsAs (.index .iy) [0xFD] (.fdPrefixX .iy) &&
    readsAs (.index .ix) [0x47] (.anyOther .ix (.ldRR .b .a))) = true := by decide +kernel

theorem cb_words_1 : (
    readsAs (.cb) [0x07] (.rlcR .a) &&
    readsAs (.cb) [0x06] (.rlcIndHl) &&
    readsAs (.cb) [0x0D] (.rrcR .l) &&
    readsAs (.cb) [0x0E] (.rrcIndHl) &&
    readsAs (.cb) [0x11] (.rlR .c) &&
    readsAs (.cb) [0x16] (.rlIndHl) &&
    readsAs (.cb) [0x1B] (.rrR .e) &&
    readsAs (.cb) [0x1E] (.rrIndHl) &&
    readsAs (.cb) [0x24] (.slaR .h) &&
    readsAs (.cb) [0x26] (.slaIndHl) &&
    readsAs (.cb) [0x28] (.sraR .b) &&
    readsAs (.cb) [0x2E] (.sraIndHl)) = true := by decide +kernel

theorem cb_words_2 : (
    readsAs (.cb) [0x32] (.sllR .d) &&
    readsAs (.cb) [0x36] (.sllIndHl) &&
    readsAs (.cb) [0x3F] (.srlR .a) &&
    readsAs (.cb) [0x3E] (.srlIndHl) &&
    readsAs (.cb) [0x4D] (.bitR .o1 .l) &&
    readsAs (.cb) [0x66] (.bitIndHl .o4) &&
    readsAs (.cb) [0xB9] (.resR .o7 .c) &&
    readsAs (.cb) [0x96] (.resIndHl .o2) &&
    readsAs (.cb) [0xEB] (.setR .o5 .e) &&
    readsAs (.cb) [0xC6] (.setIndHl .o0)) = true := by decide +kernel

theorem indexCb_words_1 : (
    readsAs (.indexCb .iy) [0x78, 0x06] (.rlcIdx .iy 0x78) &&
    readsAs (.indexCb .ix) [0x7F, 0x05] (.rlcIdxR .ix 0x7F .l) &&
    readsAs (.indexCb .iy) [0x86, 0x0E] (.rrcIdx .iy 0x86) &&
    readsAs (.indexCb .ix) [0x8D, 0x09] (.rrcIdxR .ix 0x8D .c) &&
    readsAs (.indexCb .iy) [0x94, 0x16] (.rlIdx .iy 0x94) &&
    readsAs (.indexCb .ix) [0x9B, 0x13] (.rlIdxR .ix 0x9B .e) &&
    readsAs (.indexCb .iy) [0xA2, 0x1E] (.rrIdx .iy 0xA2) &&
    readsAs (.indexCb .ix) [0xA9, 0x1C] (.rrIdxR .ix 0xA9 .h) &&
    readsAs (.indexCb .iy) [0xB0, 0x26] (.slaIdx .iy 0xB0) &&
    readsAs (.indexCb .ix) [0xB7, 0x20] (.slaIdxR .ix 0xB7 .b) &&
    readsAs (.indexCb .iy) [0xBE, 0x2E] (.sraIdx .iy 0xBE) &&
    readsAs (.indexCb .ix) [0xC5, 0x2A] (.sraIdxR .ix 0xC5 .d)) = true := by decide +kernel

theorem indexCb_words_2 : (
    readsAs (.indexCb .iy) [0xCC, 0x36] (.sllIdx .iy 0xCC) &&
    readsAs (.indexCb .ix) [0xD3, 0x37] (.sllIdxR .ix 0xD3 .a) &&
    readsAs (.indexCb .iy) [0xDA, 0x3E] (.srlIdx .iy 0xDA) &&
    readsAs (.indexCb .ix) [0xE1, 0x3D] (.srlIdxR .ix 0xE1 .l) &&
    readsAs (.indexCb .iy) [0xE8, 0x5B] (.bitIdx .iy 0xE8 .o3 .o3) &&
    readsAs (.indexCb .ix) [0xEF, 0xB6] (.resIdx .ix 0xEF .o6) &&
    readsAs (.indexCb .iy) [0xF6, 0x8A] (.resIdxR .iy 0xF6 .o1 .d) &&
    readsAs (.indexCb .ix) [0xFD, 0xE6] (.setIdx .ix 0xFD .o4) &&
    readsAs (.indexCb .iy) [0x04, 0xFF] (.setIdxR .iy 0x04 .o7 .a)) = true := by decide +kernel

theorem ed_words_1 : (
    readsAs (.ed) [0x60] (.inRIndC .h) &&
    readsAs (.ed) [0x70] (.inIndC) &&
    readsAs (.ed) [0x41] (.outIndCR .b) &&
    readsAs (.ed) [0x71] (.outIndC0) &&
    readsAs (.ed) [0x62] (.sbcHlRp .hl) &&
    readsAs (.ed) [0x7A] (.adcHlRp .sp) &&
    readsAs (.ed) [0x43, 0xE0, 0xBE] (.ldIndNnRp .bc 0xBEE0) &&
    readsAs (.ed) [0x5B, 0xE1, 0xBF] (.ldRpIndNn .de 0xBFE1) &&
    readsAs (.ed) [0x54] (.neg .o2) &&
    readsAs (.ed) [0x75] (.retn .o6) &&
    readsAs (.ed) [0x4D] (.reti) &&
    readsAs (.ed) [0x6E] (.im0 .o5)) = true := by decide +kernel

theorem ed_words_2 : (
    readsAs (.ed) [0x76] (.im1 .o6) &&
    readsAs (.ed) [0x7E] (.im2 .o7) &&
    readsAs (.ed) [0x47] (.ldIA) &&
    readsAs (.ed) [0x4F] (.ldRegRA) &&
    readsAs (.ed) [0x57] (.ldAI) &&
    readsAs (.ed) [0x5F] (.ldARegR) &&
    readsAs (.ed) [0x67] (.rrd) &&
    readsAs (.ed) [0x6F] (.rld) &&
    readsAs (.ed) [0xA0] (.ldi) &&
    readsAs (.ed) [0xA8] (.ldd) &&
    readsAs (.ed) [0xB0] (.ldir) &&
    readsAs (.ed) [0xB8] (.lddr)) = true := by decide +kernel

theorem ed_words_3 : (
    readsAs (.ed) [0xA1] (.cpi) &&
    readsAs (.ed) [0xA9] (.cpd) &&
    readsAs (.ed) [0xB1] (.cpir) &&
    readsAs (.ed) [0xB9] (.cpdr) &&
    readsAs (.ed) [0xA2] (.ini) &&
    readsAs (.ed) [0xAA] (.ind) &&
    readsAs (.ed) [0xB2] (.inir) &&
    readsAs (.ed) [0xBA] (.indr) &&
    readsAs (.ed) [0xA3] (.outi) &&
    readsAs (.ed) [0xAB] (.outd) &&
    readsAs (.ed) [0xB3] (.otir) &&
    readsAs (.ed) [0xBB] (.otdr)) = true := by decide +kernel

theorem ed_words_4 : (
    readsAs (.ed) [0xB5] (.nopEd 0xB5)) = true := by decide +kernel

end Sys2Proof
end

