-- ==== Sys2Proof/Config.lean ====
section
/-! DEFINITION. The draws that the spec leaves to the environment (00_scope.md R9), as free values.

Each is opaque: nothing can be proved about its value, so a claim that holds of the model holds for
every choice. The first argument is the counter `State.draws`, so that two draws need not agree
(20_memory.md R88: a model "must not assume two reads of one port return the same byte"). -/

namespace Sys2Proof

/-- The byte a port read returns where the environment has queued none in `State.portIn` (R9, R88, U13).
Log entry 3; a free value, so safe. -/
opaque Config.portIn (draw : Nat) (port : Word) : Byte

/-- The byte on the data bus in a mode-2 acknowledgment where the environment has queued none in
`State.busVector` (R9, R626, U12). Log entry 4; a free value, so safe. -/
opaque Config.busVector (draw : Nat) : Byte

end Sys2Proof
end

