-- ==== Sys2Proof/Machine/State.lean ====
section
/-! DEFINITION. The state of the CORE (10_state.md), the memory collaborator, and what the environment has in store for it.

Every register holds a value at every time (R32). A register pair is stored once and its halves are derived (R30). -/

namespace Sys2Proof.Machine

open Sys2Proof

/-- The interrupt mode IM (R49). -/
inductive IntMode
  | im0 | im1 | im2
  deriving DecidableEq, Repr

/-- The prefix mode (R52): `extended` after ED, `bit` after CB. -/
inductive PrefixMode
  | plain | extended | bit
  deriving DecidableEq, Repr

/-- Why the machine stops with a fault. -/
inductive Fault
  /-- R601: a memory, port or interrupt-source collaborator failed in the step; `tacts` is the tact counter, with the tacts consumed
  by then left in place, truncated to its width. Raised by the step alone, and only where the environment says so (`State.failure`). Safe: no register and no
  memory can be read off it (log entry 6). -/
  | deviceFailure (tacts : Nat)
  deriving DecidableEq, Repr

/-- Why a step or a host call has no meaning. -/
inductive Refusal
  /-- An instruction with no meaning yet, by its mnemonic: an arm of `exec`. No arm raises it now. Safe. -/
  | notModelled (mnemonic : String)
  /-- `anyOther` around an instruction that a DD or FD prefix does change (R115). Raised by `execAnyOther` on ill-formed
  terms only, which the decoder never gives. Safe (log entry 13). -/
  | notFallback
  /-- Too few bytes to decode. Raised by the step's fetch, which never runs short, so never reached. Safe. -/
  | truncated
  /-- `SetInterruptMode(m)` with m outside 0..2 (R640, decision D25). Raised by the host call, never by a step. Safe. -/
  | badInterruptMode
  deriving DecidableEq, Repr

/-! ### The memory collaborator (R9, 20_memory.md R80, R83, R92; decision D18) -/

/-- Memory as the (cell, byte) pairs that differ from what an unlisted cell reads as, in rising order of cell. -/
abbrev Memory := List Host.Cell

/-- The addresses from `first` to `last` are the cells from `base` on. Writes to a read-only window are ignored (R83). -/
structure Window where
  /-- The lowest address of the window. -/
  first : Word
  /-- The highest address of the window. -/
  last : Word
  /-- The cell that `first` names. -/
  base : Nat
  /-- Are writes ignored? -/
  readOnly : Bool
  deriving DecidableEq, Repr

/-- A write of `value` under `mask` to the addresses from `first` to `last` installs the windows: paging on a write (R98). -/
structure Switch where
  /-- The lowest address that the switch listens to. -/
  first : Word
  /-- The highest address that the switch listens to. -/
  last : Word
  /-- The bits of the written byte that matter. -/
  mask : Byte
  /-- The value that they must have. -/
  value : Byte
  /-- The windows from then on. -/
  windows : List Window
  deriving DecidableEq, Repr

/-- What a memory read returns and what a write does (R9): the cells, the windows onto them (an address in no window is the cell of its
own number, and can be written), and the writes that change the windows. DESIGN CHOICE: the spec names ROM and paging and gives neither
a form; unsafe for a collaborator of another kind (log entry 2). -/
structure MemoryCollaborator where
  /-- The contents. -/
  cells : Memory
  /-- The windows; where two overlap the first counts. -/
  windows : List Window
  /-- The switches; where two match a write the first counts. -/
  switches : List Switch
  deriving DecidableEq, Repr

/-- `FlatRam` (R83): no window, so every address is its own cell and can be written. -/
def MemoryCollaborator.flatRam (cells : Memory) : MemoryCollaborator where
  cells := cells
  windows := []
  switches := []

/-! ### The calls of collaborators, and what the environment decides about them -/

/-- One call that a step makes of a collaborator, with its address (R80, R81, R87, R626). DESIGN CHOICE: the spec does not list the kinds
of `contention(addr, kind)`; safe (log entry 5). -/
inductive Access
  /-- An M1 fetch (R112). -/
  | fetch (a : Word)
  /-- A read of an immediate or displacement byte, and of the opcode in IXCB and IYCB (R113, R118). -/
  | operand (a : Word)
  /-- Any other memory read. -/
  | read (a : Word)
  /-- A memory write. -/
  | write (a : Word)
  /-- A port read. -/
  | portRead (port : Word)
  /-- A port write. -/
  | portWrite (port : Word)
  /-- The vector byte of an acknowledgment in mode 2: neither a memory nor a port access (R82). -/
  | busVector
  deriving DecidableEq, Repr

/-- Which call fails in a step that makes it (R601): the one with `access` calls before it. The tacts consumed by then are those
that the model knows of and `tacts` more. DESIGN CHOICE: the spec gives no timing inside a step (R7); safe (log entry 6). -/
structure Failure where
  /-- How many calls of the step come before the one that fails. -/
  access : Nat
  /-- The further tacts consumed by then. -/
  tacts : Nat
  deriving DecidableEq, Repr

/-- The state of the machine. -/
@[ext]
structure State where
  /-- A:F (R30, R40). -/
  af : Word
  /-- B:C (R30). -/
  bc : Word
  /-- D:E (R30). -/
  de : Word
  /-- H:L (R30). -/
  hl : Word
  /-- The shadow pair AF' (R31). -/
  afShadow : Word
  /-- The shadow pair BC' (R31). -/
  bcShadow : Word
  /-- The shadow pair DE' (R31). -/
  deShadow : Word
  /-- The shadow pair HL' (R31). -/
  hlShadow : Word
  /-- IX, with halves IXH and IXL (R55). -/
  ix : Word
  /-- IY, with halves IYH and IYL (R55). -/
  iy : Word
  /-- The stack pointer (R56). -/
  sp : Word
  /-- The program counter (R34). -/
  pc : Word
  /-- The internal address latch WZ (R57). -/
  wz : Word
  /-- The interrupt vector register (R45). -/
  i : Byte
  /-- The refresh register (R46). -/
  r : Byte
  /-- The interrupt enable flip-flop IFF1 (R48). -/
  iff1 : Bool
  /-- The interrupt enable flip-flop IFF2 (R48). -/
  iff2 : Bool
  /-- The interrupt mode (R49). -/
  im : IntMode
  /-- The HALT state (R50). -/
  halted : Bool
  /-- The interrupt-blocked flag: the window after EI (R51). -/
  blocked : Bool
  /-- The prefix mode (R52). -/
  prefixMode : PrefixMode
  /-- The index mode (R52). -/
  indexMode : Option Index
  /-- Reset-pending (R53). -/
  resetPending : Bool
  /-- NMI-pending (R53). -/
  nmiPending : Bool
  /-- Interrupt-pending: the level of the INT line (R53, R614). -/
  intLine : Bool
  /-- The tact counter (R54). -/
  tacts : Nat
  /-- The parameter `TACT_WIDTH`: the counter's width, or unbounded (R9, decision D15; log entry 7). -/
  tactWidth : Option Nat
  /-- The parameter `MemoryCollaborator` and its state (R9, R80, R83; log entry 2). -/
  mem : MemoryCollaborator
  /-- The events `portOut(addr, v)` so far, oldest first (R9, R88; the model's own record, log entry 8). -/
  portOut : List (Word × Byte)
  /-- The bytes that port reads will return, the next one first (R9, R88; the model's own field, log entry 3). -/
  portIn : List Byte
  /-- The `busVector` draws to come, the next one first (R9, R641; the model's own field, log entry 4). -/
  busVector : List Byte
  /-- The draws `contention(addr, kind)` to come: for each access, those that name it, the next one first (R9, R89; the model's own
  field, log entry 5). -/
  contention : List (Access × Nat)
  /-- How many port and bus draws have been made (the model's own field, log entries 3 and 4). -/
  draws : Nat
  /-- Which call of a collaborator fails, if any (R601; the model's own field, log entry 6). -/
  failure : Option Failure
  deriving DecidableEq, Repr

/-- The machine right after power-up, with its parameters `MemoryCollaborator` and `TACT_WIDTH`: every register and every CPU-state
field is 0 or None (R9, R70, R700). -/
def State.powerUp (mem : MemoryCollaborator) (tactWidth : Option Nat) : State where
  af := 0
  bc := 0
  de := 0
  hl := 0
  afShadow := 0
  bcShadow := 0
  deShadow := 0
  hlShadow := 0
  ix := 0
  iy := 0
  sp := 0
  pc := 0
  wz := 0
  i := 0
  r := 0
  iff1 := false
  iff2 := false
  im := .im0
  halted := false
  blocked := false
  prefixMode := .plain
  indexMode := none
  resetPending := false
  nmiPending := false
  intLine := false
  tacts := 0
  tactWidth := tactWidth
  mem := mem
  portOut := []
  portIn := []
  busVector := []
  contention := []
  draws := 0
  failure := none

/-- The machine right after power-up with the default parameters: `FlatRam`, no cell listed, and an unbounded tact counter (R9). -/
def State.reset : State := State.powerUp (.flatRam []) none

end Sys2Proof.Machine
end

