-- ==== Sys2Proof/Machine/Ops.lean ====
section
/-! DEFINITION. The named operations over memory, the stack, ports, tacts, the fetch, and taking and leaving an interrupt. -/

namespace Sys2Proof.Machine

open Sys2Proof

/-! ### Cells -/

/-- What an unlisted cell reads as. DESIGN CHOICE: the spec leaves the contents at power-up open (U16), and its own
vectors start from memory 0 (95_test_vectors.md); unsafe (log entry 1). -/
def Memory.unlisted : Byte := 0x00

/-- The byte in cell `a`. -/
def Memory.read : Memory → Nat → Byte
  | [], _ => Memory.unlisted
  | (k, v) :: rest, a => if k = a then v else Memory.read rest a

/-- All cells but `a`. -/
def Memory.without (m : Memory) (a : Nat) : Memory := m.filter fun c => c.1 != a

/-- The cells with one more, before the first with a higher number. -/
def Memory.insertCell : Memory → Nat → Byte → Memory
  | [], a, v => [(a, v)]
  | (k, w) :: rest, a, v => if k < a then (k, w) :: Memory.insertCell rest a v else (a, v) :: (k, w) :: rest

/-- Cell `a` becomes `v`, in the canonical form: a byte that an unlisted cell reads as is not listed. -/
def Memory.write (m : Memory) (a : Nat) (v : Byte) : Memory :=
  if v = Memory.unlisted then Memory.without m a else Memory.insertCell (Memory.without m a) a v

/-- Are the numbers of the cells at least `low`, in strictly rising order, and does no cell hold what an unlisted one reads as? -/
def Memory.wfFrom : Nat → Memory → Bool
  | _, [] => true
  | low, (k, v) :: rest => low ≤ k && v != Memory.unlisted && Memory.wfFrom (k + 1) rest

/-- The canonical form of memory. -/
def Memory.wf (m : Memory) : Bool := Memory.wfFrom 0 m

/-! ### The memory collaborator (00_scope.md R9, 20_memory.md R83, R92, R98; log entry 2) -/

/-- Is `a` one of the addresses from `first` to `last`? -/
def between (first last a : Word) : Bool := decide (first ≤ a) && decide (a ≤ last)

/-- The window that address `a` lies in, if any. -/
def MemoryCollaborator.windowAt (m : MemoryCollaborator) (a : Word) : Option Window :=
  m.windows.find? fun w => between w.first w.last a

/-- The cell that address `a` names: its own number, or by its window. -/
def MemoryCollaborator.cell (m : MemoryCollaborator) (a : Word) : Nat :=
  match m.windowAt a with
  | some w => w.base + (a - w.first).toNat
  | none => a.toNat

/-- Does a write at `a` reach its cell? Not in a read-only window: "read-only ROM where writes are ignored" (R83). -/
def MemoryCollaborator.writable (m : MemoryCollaborator) (a : Word) : Bool :=
  match m.windowAt a with
  | some w => !w.readOnly
  | none => true

/-- The windows after a write of `v` at `a` (R98: "paging on a write"). -/
def MemoryCollaborator.windowsAfter (m : MemoryCollaborator) (a : Word) (v : Byte) : List Window :=
  match m.switches.find? fun w => between w.first w.last a && v &&& w.mask == w.value with
  | some w => w.windows
  | none => m.windows

/-- What a memory read at `a` returns. -/
def MemoryCollaborator.read (m : MemoryCollaborator) (a : Word) : Byte := m.cells.read (m.cell a)

/-- The cell that `a` names becomes `v`, whether or not the CORE could write it: a load by the host (60_exceptions.md R642). -/
def MemoryCollaborator.load (m : MemoryCollaborator) (a : Word) (v : Byte) : MemoryCollaborator :=
  { m with cells := m.cells.write (m.cell a) v }

/-- What a memory write of `v` at `a` does. -/
def MemoryCollaborator.write (m : MemoryCollaborator) (a : Word) (v : Byte) : MemoryCollaborator :=
  { (if m.writable a then m.load a v else m) with windows := m.windowsAfter a v }

/-- The writes of a list, in its order. -/
def MemoryCollaborator.writeAll (m : MemoryCollaborator) (writes : List (Word × Byte)) : MemoryCollaborator :=
  writes.foldl (fun m w => m.write w.1 w.2) m

/-- Is this `FlatRam`, whatever its contents? -/
def MemoryCollaborator.isFlat (m : MemoryCollaborator) : Bool := m.windows.isEmpty && m.switches.isEmpty

/-- The canonical form: that of the cells; and `FlatRam` has the cells of the 16-bit address space only. -/
def MemoryCollaborator.wf (m : MemoryCollaborator) : Bool :=
  m.cells.wf && (!m.isFlat || m.cells.all fun c => decide (c.1 < 65536))

/-- `MemRead(a, 1)` (R13). -/
def State.read8 (s : State) (a : Word) : Byte := s.mem.read a

/-- `MemWrite(a, 1, v)` (R13). -/
def State.write8 (s : State) (a : Word) (v : Byte) : State := { s with mem := s.mem.write a v }

/-- A memory load of one byte (60_exceptions.md R642). -/
def State.load8 (s : State) (a : Word) (v : Byte) : State := { s with mem := s.mem.load a v }

/-- `MemRead(a, 2)`: low byte at `a`, high byte at `(a + 1) mod 2^16` (R13, R84). -/
def State.read16 (s : State) (a : Word) : Word := word (s.read8 (a + 1)) (s.read8 a)

/-- `MemWrite(a, 2, v)`: the low byte first (R13, R84). -/
def State.write16 (s : State) (a v : Word) : State := (s.write8 a (lo v)).write8 (a + 1) (hi v)

/-! ### The stack (00_scope.md R14) -/

/-- `Push16(v)`: the high byte at SP - 1, then the low byte at SP - 2. -/
def State.push16 (s : State) (v : Word) : State :=
  let s := ({ s with sp := s.sp - 1 }).write8 (s.sp - 1) (hi v)
  ({ s with sp := s.sp - 1 }).write8 (s.sp - 1) (lo v)

/-- The word that `Pop16()` returns. -/
def State.top16 (s : State) : Word := s.read16 s.sp

/-- The state after `Pop16()`: SP is 2 higher. -/
def State.dropped16 (s : State) : State := { s with sp := s.sp + 2 }

/-! ### Ports and draws (00_scope.md R9, 20_memory.md R81, R88) -/

/-- The byte that `PortRead(port)` returns: the environment's next one, else a free value. -/
def State.portByte (s : State) (port : Word) : Byte :=
  match s.portIn with
  | v :: _ => v
  | [] => Config.portIn s.draws port

/-- The state after a port read: its draw is used up. -/
def State.portDrawn (s : State) : State := { s with portIn := s.portIn.tail, draws := s.draws + 1 }

/-- `PortWrite(port, v)`: the output event is recorded. -/
def State.portWrite (s : State) (port : Word) (v : Byte) : State := { s with portOut := s.portOut ++ [(port, v)] }

/-- The byte on the data bus in a mode-2 acknowledgment (R626): the environment's next one, else a free value. -/
def State.busByte (s : State) : Byte :=
  match s.busVector with
  | v :: _ => v
  | [] => Config.busVector s.draws

/-- The state after a `busVector` draw. -/
def State.busDrawn (s : State) : State := { s with busVector := s.busVector.tail, draws := s.draws + 1 }

/-! ### Tacts (10_state.md R54, 70_reset_and_hazards.md R730) -/

/-- `tacts <- tacts + n`. -/
def State.spend (s : State) (n : Nat) : State := { s with tacts := s.tacts + n }

/-- A tact count in a counter of the width `TACT_WIDTH` (R54): an assignment "truncates e to the width of X" (00_scope.md R11). DEDUCED:
a step adds exactly and narrows once, at its end, which is the same; safe (log entry 7). -/
def State.narrow (s : State) (n : Nat) : Nat :=
  match s.tactWidth with
  | none => n
  | some w => n % 2 ^ w

/-- The contention of one access (20_memory.md R89): before it, `contention(addr, kind)` is drawn and added to the tacts. DESIGN CHOICE:
a draw is the first in the list that names the access, and is used up; else it is the default 0 (decision D17); safe (log entry 5). -/
def State.contend (s : State) (x : Access) : State :=
  if x = .busVector then s
  else { s with
    tacts := s.tacts + (s.contention.lookup x).getD 0
    contention := s.contention.eraseP fun d => d.1 == x }

/-- The contention of the accesses of a step, one after the other (70_reset_and_hazards.md R730). -/
def State.contended (s : State) (accesses : List Access) : State := accesses.foldl State.contend s

/-! ### The fetch (30_encoding.md R110, R112, R113, R118) -/

/-- `boundary`: prefix mode and index mode are None (R16). -/
def State.boundary (s : State) : Bool := s.prefixMode == .plain && s.indexMode == none

/-- The decode context (R110). The pair (Extended, IX or IY) never occurs; it is read as ED (log entry 11). -/
def State.context (s : State) : Context :=
  match s.prefixMode, s.indexMode with
  | .plain, none => .plain
  | .plain, some x => .index x
  | .extended, _ => .ed
  | .bit, none => .cb
  | .bit, some x => .indexCb x

/-- The bytes at the PC, as many as a step can read (R111: at most three after the prefixes; log entry 10). -/
def State.fetchBytes (s : State) : List Byte := [s.read8 s.pc, s.read8 (s.pc + 1), s.read8 (s.pc + 2)]

/-- The state in which an instruction of `n` bytes is executed (R611): the PC is past its bytes; but in IXCB and IYCB, R counts
the M1 fetch and its 4 tacts are spent (R112, R118). -/
def State.fetched (s : State) (n : Nat) : State :=
  match s.context with
  | .indexCb _ => { s with pc := s.pc + BitVec.ofNat 16 n }
  | .plain | .cb | .ed | .index _ => { s with pc := s.pc + BitVec.ofNat 16 n, r := inc7 s.r, tacts := s.tacts + 4 }

/-- A non-prefix opcode clears the interrupt-blocked flag before its own effect, and leaves prefix and index mode None
(R51, R119). No instruction reads any of the three, so all are written here, before the effect (log entry 10). -/
def State.opcodeStarted (s : State) : State := { s with blocked := false, prefixMode := .plain, indexMode := none }

/-- The bytes loaded at `a` and after it. -/
def State.placeBytes (s : State) (a : Word) : List Byte → State
  | [] => s
  | v :: vs => (s.load8 a v).placeBytes (a + 1) vs

/-! ### Repeating block instructions (42_block_transfer_search.md R288) -/

/-- `Repeat()`: the PC is back on the ED byte, WZ on the byte after it, and 5 more tacts are spent. -/
def State.repeatInstr (s : State) : State := ({ s with pc := s.pc - 2, wz := s.pc - 1 }).spend 5

/-! ### Taking an interrupt, and returning (60_exceptions.md R621 to R629) -/

/-- The entry common to the NMI and the maskable interrupt (R621, R623): HALT ends, R counts, IFF1 is cleared and IFF2 becomes
`iff2`, the PC is pushed; then the PC and WZ are set to the vector, which may be read from memory after the push (R626). -/
def State.enterHandler (s : State) (iff2 : Bool) (vector : State → Word) (cost : Nat) : State :=
  let s := ({ s with halted := false, r := inc7 s.r, iff1 := false, iff2 := iff2 }).push16 s.pc
  ({ s with pc := vector s, wz := vector s }).spend cost

/-- The NMI acknowledgment (R621). DESIGN CHOICE: IFF2 keeps its value, as R621, decision D14 and 10_state.md R48 say, also where the
NMI comes inside an NMI handler; R628 says that IFF2 then becomes the IFF1 of that moment, and 90_conflicts.md does not name the clash;
unsafe (log entry 17). -/
def State.nmiAck (s : State) : State := ({ s with nmiPending := false }).enterHandler s.iff2 (fun _ => 0x0066) 11

/-- The address of the mode-2 table entry, `I * 256 + busVector` (R626). -/
def State.vectorEntry (s : State) : Word := word s.i s.busByte

/-- The maskable acknowledgment by interrupt mode (R623 to R626). -/
def State.intAck (s : State) : State :=
  match s.im with
  | .im0 => s.enterHandler false (fun _ => 0x0038) 13
  | .im1 => s.enterHandler false (fun _ => 0x0038) 13
  | .im2 => s.busDrawn.enterHandler false (fun t => t.read16 s.vectorEntry) 19

/-- The return from a handler (R629, 47_control.md R431, R432): `PC <- Pop16(); WZ <- PC; IFF1 <- IFF2`. -/
def State.leaveHandler (s : State) : State :=
  { s.dropped16 with pc := s.top16, wz := s.top16, iff1 := s.iff2 }

/-- The halted step (R615). -/
def State.haltedStep (s : State) : State := ({ s with r := inc7 s.r }).spend 4

/-- The reset step (R613, 70_reset_and_hazards.md R701). -/
def State.resetSignal (s : State) : State :=
  { s with
    pc := 0, sp := 0, i := 0, r := 0, iff1 := false, iff2 := false, im := .im0, halted := false, blocked := false,
    prefixMode := .plain, indexMode := none, resetPending := false, nmiPending := false, tacts := 0 }

end Sys2Proof.Machine
end

