-- ==== Sys2Proof/Machine/Operands.lean ====
section
/-! DEFINITION. The operand forms: registers, pairs, index halves, indexed addresses and conditions (30_encoding.md R116 to R124). -/

namespace Sys2Proof.Machine

open Sys2Proof

/-! ### 8-bit registers (10_state.md R30, 30_encoding.md R120) -/

/-- The accumulator. -/
def State.a (s : State) : Byte := hi s.af

/-- The flag register (R40). -/
def State.f (s : State) : Byte := lo s.af

/-- `reg8(code)`, H and L not substituted. -/
def State.reg8 (s : State) : Reg8 → Byte
  | .b => hi s.bc
  | .c => lo s.bc
  | .d => hi s.de
  | .e => lo s.de
  | .h => hi s.hl
  | .l => lo s.hl
  | .a => hi s.af

/-- `reg8(code) <- v`: the other half of the pair keeps its value (R30). -/
def State.setReg8 (s : State) (r : Reg8) (v : Byte) : State :=
  match r with
  | .b => { s with bc := word v (lo s.bc) }
  | .c => { s with bc := word (hi s.bc) v }
  | .d => { s with de := word v (lo s.de) }
  | .e => { s with de := word (hi s.de) v }
  | .h => { s with hl := word v (lo s.hl) }
  | .l => { s with hl := word (hi s.hl) v }
  | .a => { s with af := word v (lo s.af) }

/-! ### 16-bit registers (R122, R123, R55) -/

/-- `rp(code)`, HL not substituted. -/
def State.pair (s : State) : Pair → Word
  | .bc => s.bc
  | .de => s.de
  | .hl => s.hl
  | .sp => s.sp

/-- `rp(code) <- v`. -/
def State.setPair (s : State) (p : Pair) (v : Word) : State :=
  match p with
  | .bc => { s with bc := v }
  | .de => { s with de := v }
  | .hl => { s with hl := v }
  | .sp => { s with sp := v }

/-- `rp2(code)`. -/
def State.stackPair (s : State) : StackPair → Word
  | .bc => s.bc
  | .de => s.de
  | .hl => s.hl
  | .af => s.af

/-- `rp2(code) <- v`. -/
def State.setStackPair (s : State) (q : StackPair) (v : Word) : State :=
  match q with
  | .bc => { s with bc := v }
  | .de => { s with de := v }
  | .hl => { s with hl := v }
  | .af => { s with af := v }

/-- IXY (R18). -/
def State.index (s : State) : Index → Word
  | .ix => s.ix
  | .iy => s.iy

/-- `IXY <- v`. -/
def State.setIndex (s : State) (x : Index) (v : Word) : State :=
  match x with
  | .ix => { s with ix := v }
  | .iy => { s with iy := v }

/-- `rp(code)` with code 10 naming IXY itself (R122, 44_alu16.md R351). -/
def State.pairX (s : State) (x : Index) : Pair → Word
  | .bc => s.bc
  | .de => s.de
  | .hl => s.index x
  | .sp => s.sp

/-! ### Index halves (R55, R116) -/

/-- IXH, IXL, IYH or IYL. -/
def State.indexHalf (s : State) (x : Index) : Half → Byte
  | .high => hi (s.index x)
  | .low => lo (s.index x)

/-- A write to an index half: the other half keeps its value (R55). -/
def State.setIndexHalf (s : State) (x : Index) (q : Half) (v : Byte) : State :=
  match q with
  | .high => s.setIndex x (word v (lo (s.index x)))
  | .low => s.setIndex x (word (hi (s.index x)) v)

/-- `reg8x`: `reg8` with H read as the high half of IXY and L as the low half (40_load8.md R212). -/
def State.reg8x (s : State) (x : Index) : Reg8 → Byte
  | .h => s.indexHalf x .high
  | .l => s.indexHalf x .low
  | .b => s.reg8 .b
  | .c => s.reg8 .c
  | .d => s.reg8 .d
  | .e => s.reg8 .e
  | .a => s.reg8 .a

/-- `reg8x(code) <- v` (R212). -/
def State.setReg8x (s : State) (x : Index) (r : Reg8) (v : Byte) : State :=
  match r with
  | .h => s.setIndexHalf x .high v
  | .l => s.setIndexHalf x .low v
  | .b => s.setReg8 .b v
  | .c => s.setReg8 .c v
  | .d => s.setReg8 .d v
  | .e => s.setReg8 .e v
  | .a => s.setReg8 .a v

/-! ### Indexed addresses (R117) -/

/-- `ea <- (IXY + sext_16(d)) mod 2^16`. -/
def State.ea (s : State) (x : Index) (d : Byte) : Word := s.index x + sext16 d

/-- `WZ <- ea`. -/
def State.latchEa (s : State) (x : Index) (d : Byte) : State := { s with wz := s.ea x d }

/-! ### Conditions (R124) -/

/-- A bit of F. -/
def State.flagBit (s : State) (k : Nat) : Bool := s.f.getLsbD k

/-- `cond(code)`: Z is bit 6 of F, C bit 0, PV bit 2, S bit 7 (R40, R124). -/
def State.holds (s : State) : Cond → Bool
  | .nz => !s.flagBit 6
  | .z => s.flagBit 6
  | .nc => !s.flagBit 0
  | .c => s.flagBit 0
  | .po => !s.flagBit 2
  | .pe => s.flagBit 2
  | .p => !s.flagBit 7
  | .m => s.flagBit 7

/-- The condition of a JR (R124). -/
def State.holdsJr (s : State) : JrCond → Bool
  | .nz => !s.flagBit 6
  | .z => s.flagBit 6
  | .nc => !s.flagBit 0
  | .c => s.flagBit 0

end Sys2Proof.Machine
end

