-- ==== Sys2Proof/Machine/Accesses.lean ====
section
/-! DEFINITION. The calls of collaborators that a step makes, in the order of its pseudocode (20_memory.md R80, R81, R84, R87, R98).
They are what contention is drawn for (R89) and what can fail (60_exceptions.md R601).

All of them are known before the instruction is executed: no address depends on a byte that the same instruction reads. -/

namespace Sys2Proof.Machine

open Sys2Proof

/-- The accesses of `MemRead(a, 2)`: the low byte first (R84). -/
def readsWord (a : Word) : List Access := [.read a, .read (a + 1)]

/-- The accesses of `MemWrite(a, 2, v)`: the low byte first (R84). -/
def writesWord (a : Word) : List Access := [.write a, .write (a + 1)]

/-- A read followed by a write of the same byte (R95). -/
def readsAndWrites (a : Word) : List Access := [.read a, .write a]

/-- The accesses of `Push16` (00_scope.md R14). -/
def State.pushAccesses (s : State) : List Access := [.write (s.sp - 1), .write (s.sp - 2)]

/-- The accesses of `Pop16` (00_scope.md R14). -/
def State.popAccesses (s : State) : List Access := readsWord s.sp

/-- The accesses of EX (SP),HL and EX (SP),IXY: (SP + 1) is written first (R84). -/
def State.exchangeAccesses (s : State) : List Access := readsWord s.sp ++ [.write (s.sp + 1), .write s.sp]

/-- The accesses of LDI and its kin (42_block_transfer_search.md R280). -/
def State.blockLoadAccesses (s : State) : List Access := [.read s.hl, .write s.de]

/-- The accesses of INI and its kin: the port is BC before B is decremented (48_io.md R467). -/
def State.blockInAccesses (s : State) : List Access := [.portRead s.bc, .write s.hl]

/-- The accesses of OUTI and its kin: the port is BC after B is decremented (48_io.md R471). -/
def State.blockOutAccesses (s : State) : List Access := [.read s.hl, .portWrite (word (s.reg8 .b - 1) (s.reg8 .c))]

/-- An instruction with the fall-back to context None taken off (30_encoding.md R115). -/
def coreInstr : Instr → Instr
  | .anyOther _ j => j
  | i => i

/-- The data accesses of an instruction that is no fall-back, executed in state `s`. -/
def coreAccesses (s : State) : Instr → List Access
  -- 8-bit loads
  | .ldRIndHl _ => [.read s.hl]
  | .ldIndHlR _ | .ldIndHlN _ => [.write s.hl]
  | .ldAIndBc => [.read s.bc]
  | .ldAIndDe => [.read s.de]
  | .ldAIndNn nn => [.read nn]
  | .ldIndBcA => [.write s.bc]
  | .ldIndDeA => [.write s.de]
  | .ldIndNnA nn => [.write nn]
  | .ldRIdx x _ d => [.read (s.ea x d)]
  | .ldIdxR x d _ | .ldIdxN x d _ => [.write (s.ea x d)]
  -- 16-bit loads, the stack, exchanges
  | .ldHlIndNn nn | .ldXIndNn _ nn | .ldRpIndNn _ nn => readsWord nn
  | .ldIndNnHl nn | .ldIndNnX _ nn | .ldIndNnRp _ nn => writesWord nn
  | .pushRp _ | .pushX _ => s.pushAccesses
  | .popRp _ | .popX _ => s.popAccesses
  | .exIndSpHl | .exIndSpX _ => s.exchangeAccesses
  -- block transfer and search
  | .ldi | .ldd | .ldir | .lddr => s.blockLoadAccesses
  | .cpi | .cpd | .cpir | .cpdr => [.read s.hl]
  -- 8-bit arithmetic and logic
  | .addIndHl | .adcIndHl | .subIndHl | .sbcIndHl | .andIndHl | .xorIndHl | .orIndHl | .cpIndHl => [.read s.hl]
  | .addIdx x d | .adcIdx x d | .subIdx x d | .sbcIdx x d | .andIdx x d | .xorIdx x d | .orIdx x d | .cpIdx x d => [.read (s.ea x d)]
  | .incIndHl | .decIndHl => readsAndWrites s.hl
  | .incIdx x d | .decIdx x d => readsAndWrites (s.ea x d)
  -- rotates, shifts, bits
  | .rlcIndHl | .rrcIndHl | .rlIndHl | .rrIndHl | .slaIndHl | .sraIndHl | .sllIndHl | .srlIndHl => readsAndWrites s.hl
  | .rlcIdx x d | .rlcIdxR x d _ | .rrcIdx x d | .rrcIdxR x d _ | .rlIdx x d | .rlIdxR x d _ => readsAndWrites (s.ea x d)
  | .rrIdx x d | .rrIdxR x d _ | .slaIdx x d | .slaIdxR x d _ | .sraIdx x d | .sraIdxR x d _ => readsAndWrites (s.ea x d)
  | .sllIdx x d | .sllIdxR x d _ | .srlIdx x d | .srlIdxR x d _ => readsAndWrites (s.ea x d)
  | .rld | .rrd => readsAndWrites s.hl
  | .bitIndHl _ => [.read s.hl]
  | .bitIdx x d _ _ => [.read (s.ea x d)]
  | .resIndHl _ | .setIndHl _ => readsAndWrites s.hl
  | .resIdx x d _ | .resIdxR x d _ _ | .setIdx x d _ | .setIdxR x d _ _ => readsAndWrites (s.ea x d)
  -- calls, returns, restarts
  | .callNn _ | .rst _ => s.pushAccesses
  | .callCcNn cc _ => if s.holds cc then s.pushAccesses else []
  | .ret | .reti | .retn _ => s.popAccesses
  | .retCc cc => if s.holds cc then s.popAccesses else []
  -- input and output
  | .inAIndN n => [.portRead (word s.a n)]
  | .outIndNA n => [.portWrite (word s.a n)]
  | .inRIndC _ | .inIndC => [.portRead s.bc]
  | .outIndCR _ | .outIndC0 => [.portWrite s.bc]
  | .ini | .ind | .inir | .indr => s.blockInAccesses
  | .outi | .outd | .otir | .otdr => s.blockOutAccesses
  -- registers, flags and the PC only
  | .nop | .exAfAf | .djnz _ | .jr _ | .jrCc _ _ | .ldRpNn _ _ | .addHlRp _ | .incRp _ | .decRp _ | .incR _ | .decR _ => []
  | .ldRN _ _ | .rlca | .rrca | .rla | .rra | .daa | .cpl | .scf | .ccf | .ldRR _ _ | .halt | .exx | .exDeHl | .di | .ei => []
  | .addR _ | .adcR _ | .subR _ | .sbcR _ | .andR _ | .xorR _ | .orR _ | .cpR _ => []
  | .addN _ | .adcN _ | .subN _ | .sbcN _ | .andN _ | .xorN _ | .orN _ | .cpN _ => []
  | .jpIndHl | .ldSpHl | .jpCcNn _ _ | .jpNn _ | .cbPrefix | .ddPrefix | .edPrefix | .fdPrefix => []
  | .addXRp _ _ | .ldXNn _ _ | .incX _ | .decX _ | .incXHalf _ _ | .decXHalf _ _ | .ldXHalfN _ _ _ | .ldRRHalves _ _ _ => []
  | .addXHalf _ _ | .adcXHalf _ _ | .subXHalf _ _ | .sbcXHalf _ _ | .andXHalf _ _ | .xorXHalf _ _ | .orXHalf _ _ | .cpXHalf _ _ => []
  | .jpX _ | .ldSpX _ | .cbPrefixX _ | .ddPrefixX _ | .edPrefixX _ | .fdPrefixX _ | .anyOther _ _ => []
  | .rlcR _ | .rrcR _ | .rlR _ | .rrR _ | .slaR _ | .sraR _ | .sllR _ | .srlR _ | .bitR _ _ | .resR _ _ | .setR _ _ => []
  | .sbcHlRp _ | .adcHlRp _ | .neg _ | .im0 _ | .im1 _ | .im2 _ | .ldIA | .ldRegRA | .ldAI | .ldARegR | .nopEd _ => []

/-- The data accesses of an instruction executed in state `s`; those of a fall-back are those of its instruction. -/
def State.dataAccesses (s : State) (i : Instr) : List Access := coreAccesses s (coreInstr i)

/-- The accesses that read the `n` bytes of an instruction at the PC: the M1 fetch and the operand reads; in IXCB and IYCB operand
reads alone (30_encoding.md R112, R113, R118). -/
def State.fetchAccesses (s : State) (n : Nat) : List Access :=
  match s.context with
  | .indexCb _ => [.operand s.pc, .operand (s.pc + 1)]
  | .plain | .cb | .ed | .index _ => .fetch s.pc :: (List.range (n - 1)).map fun k => .operand (s.pc + 1 + BitVec.ofNat 16 k)

/-- The accesses of the maskable acknowledgment: the push, and in mode 2 the vector byte and the table entry (60_exceptions.md R623 to
R626). -/
def State.intAccesses (s : State) : List Access :=
  match s.im with
  | .im0 => s.pushAccesses
  | .im1 => s.pushAccesses
  | .im2 => s.pushAccesses ++ .busVector :: readsWord s.vectorEntry

end Sys2Proof.Machine
end

