-- ==== Sys2Proof/Machine/Flags.lean ====
section
/-! DEFINITION. The flag register as eight flags, and every flag computation of the spec (10_state.md R40, 43 to 48).

Each function returns the result and the flags; a flag its rule does not write comes from the flags it is given. -/

namespace Sys2Proof.Machine

open Sys2Proof

/-- The eight flags (R40). -/
structure Flags where
  s : Bool
  z : Bool
  y : Bool
  h : Bool
  x : Bool
  pv : Bool
  n : Bool
  c : Bool
  deriving DecidableEq, Repr

/-- The flags at their bits: S 7, Z 6, Y 5, H 4, X 3, PV 2, N 1, C 0 (R40). -/
def packFlags (g : Flags) : Byte :=
  BitVec.ofBool g.s ++ BitVec.ofBool g.z ++ BitVec.ofBool g.y ++ BitVec.ofBool g.h ++
    BitVec.ofBool g.x ++ BitVec.ofBool g.pv ++ BitVec.ofBool g.n ++ BitVec.ofBool g.c

/-- The flags of a byte (R40). -/
def unpackFlags (f : Byte) : Flags where
  s := f.getLsbD 7
  z := f.getLsbD 6
  y := f.getLsbD 5
  h := f.getLsbD 4
  x := f.getLsbD 3
  pv := f.getLsbD 2
  n := f.getLsbD 1
  c := f.getLsbD 0

/-- The flags of the state. -/
def State.flags (s : State) : Flags := unpackFlags s.f

/-- F is written, A keeps its value. -/
def State.setFlags (s : State) (g : Flags) : State := { s with af := word s.a (packFlags g) }

/-- A and F are written. -/
def State.setAF (s : State) (v : Byte × Flags) : State := { s with af := word v.1 (packFlags v.2) }

/-- `SZXY(v)`: S, Z, Y and X from the byte (R15). -/
def Flags.szxy (g : Flags) (v : Byte) : Flags :=
  { g with s := v.getLsbD 7, z := v == 0, y := v.getLsbD 5, x := v.getLsbD 3 }

/-! ### 8-bit arithmetic and logic (43_alu8.md) -/

/-- `add8(a, v, c)` (R300). -/
def add8 (a v : Byte) (c : Bool) (g : Flags) : Byte × Flags :=
  let sum := a.toNat + v.toNat + c.toNat
  let res := BitVec.ofNat 8 sum
  (res, { g.szxy res with
    h := decide ((lowDigit a).toNat + (lowDigit v).toNat + c.toNat > 0xF)
    pv := a.getLsbD 7 == v.getLsbD 7 && res.getLsbD 7 != a.getLsbD 7
    n := false
    c := decide (sum > 0xFF) })

/-- `sub8(a, v, c)` (R301). -/
def sub8 (a v : Byte) (c : Bool) (g : Flags) : Byte × Flags :=
  let diff : Int := a.toNat - v.toNat - c.toNat
  let res := BitVec.ofInt 8 diff
  (res, { g.szxy res with
    h := decide (((lowDigit a).toNat : Int) - (lowDigit v).toNat - c.toNat < 0)
    pv := a.getLsbD 7 != v.getLsbD 7 && res.getLsbD 7 != a.getLsbD 7
    n := true
    c := decide (diff < 0) })

/-- The flags of `logic(op, a, v)` from its result; H is 1 for AND (R302). -/
def logicFlags (res : Byte) (h : Bool) (g : Flags) : Flags :=
  { g.szxy res with h := h, pv := parity res, n := false, c := false }

/-- `logic(AND, a, v)` (R302). -/
def and8 (a v : Byte) (g : Flags) : Byte × Flags := (a &&& v, logicFlags (a &&& v) true g)

/-- `logic(XOR, a, v)` (R302). -/
def xor8 (a v : Byte) (g : Flags) : Byte × Flags := (a ^^^ v, logicFlags (a ^^^ v) false g)

/-- `logic(OR, a, v)` (R302). -/
def or8 (a v : Byte) (g : Flags) : Byte × Flags := (a ||| v, logicFlags (a ||| v) false g)

/-- The flags of CP: those of `sub8`, but Y and X from the operand (R313). -/
def cp8 (a v : Byte) (g : Flags) : Flags :=
  { (sub8 a v false g).2 with y := v.getLsbD 5, x := v.getLsbD 3 }

/-- `inc8(v)` (R303). -/
def inc8 (v : Byte) (g : Flags) : Byte × Flags :=
  let res := v + 1
  (res, { g.szxy res with h := lowDigit v == 0xF, pv := v == 0x7F, n := false })

/-- `dec8(v)` (R304). -/
def dec8 (v : Byte) (g : Flags) : Byte × Flags :=
  let res := v - 1
  (res, { g.szxy res with h := lowDigit v == 0, pv := v == 0x80, n := true })

/-- DAA (R320). -/
def daa8 (a : Byte) (g : Flags) : Byte × Flags :=
  let low : Byte := if g.h || decide ((lowDigit a).toNat > 9) then 0x06 else 0
  let carry := g.c || decide (a.toNat > 0x99)
  let diff : Byte := low + (if carry then 0x60 else 0)
  let res := if g.n then a - diff else a + diff
  let half := if g.n then g.h && decide ((lowDigit a).toNat < 6) else decide ((lowDigit a).toNat > 9)
  (res, { g.szxy res with h := half, pv := parity res, c := carry })

/-! ### 16-bit arithmetic (44_alu16.md) -/

/-- The sum of bits 11 to 0, as a number: the half carry of a 16-bit operation is out of bit 11. -/
def low12 (w : Word) : Nat := (w.extractLsb' 0 12).toNat

/-- `ADD HL,rr`: S, Z and PV are kept (R350). -/
def add16 (a v : Word) (g : Flags) : Word × Flags :=
  let sum := a.toNat + v.toNat
  let res := BitVec.ofNat 16 sum
  (res, { g with
    h := decide (low12 a + low12 v > 0xFFF)
    c := decide (sum > 0xFFFF)
    n := false
    y := res.getLsbD 13
    x := res.getLsbD 11 })

/-- `ADC HL,rr` (R352). -/
def adc16 (a v : Word) (c : Bool) : Word × Flags :=
  let sum := a.toNat + v.toNat + c.toNat
  let res := BitVec.ofNat 16 sum
  (res, {
    s := res.getLsbD 15
    z := res == 0
    y := res.getLsbD 13
    x := res.getLsbD 11
    h := decide (low12 a + low12 v + c.toNat > 0xFFF)
    pv := a.getLsbD 15 == v.getLsbD 15 && res.getLsbD 15 != a.getLsbD 15
    n := false
    c := decide (sum > 0xFFFF) })

/-- `SBC HL,rr` (R353). -/
def sbc16 (a v : Word) (c : Bool) : Word × Flags :=
  let diff : Int := a.toNat - v.toNat - c.toNat
  let res := BitVec.ofInt 16 diff
  (res, {
    s := res.getLsbD 15
    z := res == 0
    y := res.getLsbD 13
    x := res.getLsbD 11
    h := decide ((low12 a : Int) - low12 v - c.toNat < 0)
    pv := a.getLsbD 15 != v.getLsbD 15 && res.getLsbD 15 != a.getLsbD 15
    n := true
    c := decide (diff < 0) })

/-! ### Rotates and shifts (45_rotate_shift.md): `f(v, cin) -> (res, cout)` -/

/-- RLC (R375). -/
def rlc8 (v : Byte) (_ : Bool) : Byte × Bool := (v.extractLsb' 0 7 ++ v.extractLsb' 7 1, v.getLsbD 7)

/-- RRC (R376). -/
def rrc8 (v : Byte) (_ : Bool) : Byte × Bool := (v.extractLsb' 0 1 ++ v.extractLsb' 1 7, v.getLsbD 0)

/-- RL (R377). -/
def rl8 (v : Byte) (cin : Bool) : Byte × Bool := (v.extractLsb' 0 7 ++ BitVec.ofBool cin, v.getLsbD 7)

/-- RR (R378). -/
def rr8 (v : Byte) (cin : Bool) : Byte × Bool := (BitVec.ofBool cin ++ v.extractLsb' 1 7, v.getLsbD 0)

/-- SLA (R379). -/
def sla8 (v : Byte) (_ : Bool) : Byte × Bool := (v.extractLsb' 0 7 ++ 0#1, v.getLsbD 7)

/-- SRA (R380). -/
def sra8 (v : Byte) (_ : Bool) : Byte × Bool := (v.extractLsb' 7 1 ++ v.extractLsb' 1 7, v.getLsbD 0)

/-- SLL: a 1 enters at bit 0 (R381). -/
def sll8 (v : Byte) (_ : Bool) : Byte × Bool := (v.extractLsb' 0 7 ++ 1#1, v.getLsbD 7)

/-- SRL (R382). -/
def srl8 (v : Byte) (_ : Bool) : Byte × Bool := (0#1 ++ v.extractLsb' 1 7, v.getLsbD 0)

/-- The flags of a CB rotate or shift (R374). -/
def rotFlags (v : Byte × Bool) (g : Flags) : Flags :=
  { g.szxy v.1 with h := false, pv := parity v.1, n := false, c := v.2 }

/-- The flags of RLCA, RRCA, RLA and RRA: S, Z and PV are kept (R370 to R373). -/
def accRotFlags (v : Byte × Bool) (g : Flags) : Flags :=
  { g with h := false, n := false, c := v.2, y := v.1.getLsbD 5, x := v.1.getLsbD 3 }

/-- The flags of RLD and RRD from the new A: C is kept (R383, R384). -/
def digitFlags (a : Byte) (g : Flags) : Flags :=
  { g.szxy a with h := false, pv := parity a, n := false }

/-! ### BIT (46_bit.md) -/

/-- The flags of BIT: the tested bit decides Z, PV and S; Y and X come from the byte `yx` (R400 to R402). -/
def bitFlags (b : Oct) (v yx : Byte) (g : Flags) : Flags :=
  let t := v &&& bitMask b
  { g with
    z := t == 0
    pv := t == 0
    s := b == .o7 && t != 0
    h := true
    n := false
    y := yx.getLsbD 5
    x := yx.getLsbD 3 }

/-! ### Loads and input -/

/-- The flags of LD A,I and LD A,R: PV is IFF2, C is kept (40_load8.md R213, R214). -/
def loadIRFlags (v : Byte) (iff2 : Bool) (g : Flags) : Flags :=
  { g.szxy v with h := false, n := false, pv := iff2 }

/-- The flags of IN r,(C): C is kept (48_io.md R462). -/
def inFlags (t : Byte) (g : Flags) : Flags :=
  { g.szxy t with h := false, pv := parity t, n := false }

/-! ### Block instructions -/

/-- The flags of LDI and LDD: `n = t + A` gives Y and X, `more` is BC != 0 after the decrement (42_block_transfer_search.md R280). -/
def blockLoadFlags (t a : Byte) (more : Bool) (g : Flags) : Flags :=
  let n := t + a
  { g with h := false, n := false, pv := more, y := n.getLsbD 1, x := n.getLsbD 3 }

/-- The flags of CPI and CPD: `n = r - h` gives Y and X, C is kept (R284). -/
def blockCompareFlags (a t : Byte) (more : Bool) (g : Flags) : Flags :=
  let r := a - t
  let h := decide ((lowDigit a).toNat < (lowDigit t).toNat)
  let n := r - (if h then 1 else 0)
  { g with s := r.getLsbD 7, z := r == 0, h := h, pv := more, n := true, y := n.getLsbD 1, x := n.getLsbD 3 }

/-- `ioflags(t, k)`, with B after its decrement (48_io.md R466). -/
def ioFlags (t b : Byte) (k : Nat) (g : Flags) : Flags :=
  { g.szxy b with
    n := t.getLsbD 7
    h := decide (k > 0xFF)
    c := decide (k > 0xFF)
    pv := parity ((BitVec.ofNat 8 k &&& 0x07) ^^^ b) }

end Sys2Proof.Machine
end

