-- ==== Sys2Proof/Machine/Load8.lean ====
section
/-! DEFINITION. The 8-bit loads (40_load8.md R200 to R216).

A meaning starts after the step's own fetch: the PC is past the instruction and 4 tacts of each M1 fetch are spent, so it
spends the rest of its form's total (70_reset_and_hazards.md R730). -/

namespace Sys2Proof.Machine

open Sys2Proof

/-- An instruction that answers a next state on every path. -/
abbrev Result := Host.Outcome State Fault Refusal

/-- `LD r,r'` (R200). -/
def execLdRR (dst src : Reg8) (s : State) : Result := .next (s.setReg8 dst (s.reg8 src))

/-- `LD r,n` (R201). -/
def execLdRN (r : Reg8) (n : Byte) (s : State) : Result := .next ((s.setReg8 r n).spend 3)

/-- `LD r,(HL)`: the old HL is the address (R202). -/
def execLdRIndHl (r : Reg8) (s : State) : Result := .next ((s.setReg8 r (s.read8 s.hl)).spend 3)

/-- `LD (HL),r` (R203). -/
def execLdIndHlR (r : Reg8) (s : State) : Result := .next ((s.write8 s.hl (s.reg8 r)).spend 3)

/-- `LD (HL),n` (R204). -/
def execLdIndHlN (n : Byte) (s : State) : Result := .next ((s.write8 s.hl n).spend 6)

/-- `A <- M[a]; WZ <- a + 1`: the loads of A through an address (R205, R207). -/
def State.loadA (s : State) (a : Word) : State := { s.setReg8 .a (s.read8 a) with wz := a + 1 }

/-- `M[a] <- A; W <- A; Z <- lo(a) + 1`: the stores of A through an address; Z wraps without a carry into W (R206, R208). -/
def State.storeA (s : State) (a : Word) : State := { s.write8 a s.a with wz := word s.a (lo a + 1) }

/-- `LD A,(BC)` (R205). -/
def execLdAIndBc (s : State) : Result := .next ((s.loadA s.bc).spend 3)

/-- `LD A,(DE)` (R205). -/
def execLdAIndDe (s : State) : Result := .next ((s.loadA s.de).spend 3)

/-- `LD (BC),A` (R206). -/
def execLdIndBcA (s : State) : Result := .next ((s.storeA s.bc).spend 3)

/-- `LD (DE),A` (R206). -/
def execLdIndDeA (s : State) : Result := .next ((s.storeA s.de).spend 3)

/-- `LD A,(nn)` (R207). -/
def execLdAIndNn (nn : Word) (s : State) : Result := .next ((s.loadA nn).spend 9)

/-- `LD (nn),A` (R208). -/
def execLdIndNnA (nn : Word) (s : State) : Result := .next ((s.storeA nn).spend 9)

/-- `LD r,(IXY+d)`: H and L are H and L (R209). -/
def execLdRIdx (x : Index) (r : Reg8) (d : Byte) (s : State) : Result :=
  .next (((s.latchEa x d).setReg8 r (s.read8 (s.ea x d))).spend 11)

/-- `LD (IXY+d),r`: H and L are H and L (R210). -/
def execLdIdxR (x : Index) (d : Byte) (r : Reg8) (s : State) : Result :=
  .next (((s.latchEa x d).write8 (s.ea x d) (s.reg8 r)).spend 11)

/-- `LD (IXY+d),n` (R211). -/
def execLdIdxN (x : Index) (d n : Byte) (s : State) : Result :=
  .next (((s.latchEa x d).write8 (s.ea x d) n).spend 11)

/-- `LD r,r'` with index halves (R212). -/
def execLdRRHalves (x : Index) (dst src : Reg8) (s : State) : Result := .next (s.setReg8x x dst (s.reg8x x src))

/-- `LD IXYH/IXYL,n` (R212). -/
def execLdXHalfN (x : Index) (q : Half) (n : Byte) (s : State) : Result := .next ((s.setIndexHalf x q n).spend 3)

/-- `LD A,I` (R213). -/
def execLdAI (s : State) : Result := .next ((s.setAF (s.i, loadIRFlags s.i s.iff2 s.flags)).spend 1)

/-- `LD A,R`: R counts this instruction's own fetches already (R214). -/
def execLdARegR (s : State) : Result := .next ((s.setAF (s.r, loadIRFlags s.r s.iff2 s.flags)).spend 1)

/-- `LD I,A` (R215). -/
def execLdIA (s : State) : Result := .next (({ s with i := s.a }).spend 1)

/-- `LD R,A`: all 8 bits (R216). -/
def execLdRegRA (s : State) : Result := .next (({ s with r := s.a }).spend 1)

end Sys2Proof.Machine
end

