-- ==== Sys2Proof/Machine/Alu16.lean ====
section
/-! DEFINITION. 16-bit arithmetic (44_alu16.md R350 to R356). -/

namespace Sys2Proof.Machine

open Sys2Proof

/-- `ADD HL,rr`: WZ is the old HL + 1 (R350). -/
def execAddHlRp (p : Pair) (s : State) : Result :=
  let out := add16 s.hl (s.pair p) s.flags
  .next (({ s.setFlags out.2 with hl := out.1, wz := s.hl + 1 }).spend 7)

/-- `ADD IXY,rr`, code 10 naming IXY itself (R351). -/
def execAddXRp (x : Index) (p : Pair) (s : State) : Result :=
  let out := add16 (s.index x) (s.pairX x p) s.flags
  .next (({ (s.setFlags out.2).setIndex x out.1 with wz := s.index x + 1 }).spend 7)

/-- `ADC HL,rr` (R352). -/
def execAdcHlRp (p : Pair) (s : State) : Result :=
  let out := adc16 s.hl (s.pair p) s.flags.c
  .next (({ s.setFlags out.2 with hl := out.1, wz := s.hl + 1 }).spend 7)

/-- `SBC HL,rr` (R353). -/
def execSbcHlRp (p : Pair) (s : State) : Result :=
  let out := sbc16 s.hl (s.pair p) s.flags.c
  .next (({ s.setFlags out.2 with hl := out.1, wz := s.hl + 1 }).spend 7)

/-- `INC rr` (R354). -/
def execIncRp (p : Pair) (s : State) : Result := .next ((s.setPair p (s.pair p + 1)).spend 2)

/-- `DEC rr` (R355). -/
def execDecRp (p : Pair) (s : State) : Result := .next ((s.setPair p (s.pair p - 1)).spend 2)

/-- `INC IXY` (R356). -/
def execIncX (x : Index) (s : State) : Result := .next ((s.setIndex x (s.index x + 1)).spend 2)

/-- `DEC IXY` (R356). -/
def execDecX (x : Index) (s : State) : Result := .next ((s.setIndex x (s.index x - 1)).spend 2)

end Sys2Proof.Machine
end

