-- ==== Sys2Proof/Machine/Alu8.lean ====
section
/-! DEFINITION. 8-bit arithmetic and logic (43_alu8.md R305 to R324). -/

namespace Sys2Proof.Machine

open Sys2Proof

/-! ### The eight operations on A (R306 to R313) -/

/-- `A <- add8(A, v, 0)` (R306). -/
def State.accAdd (s : State) (v : Byte) : State := s.setAF (add8 s.a v false s.flags)

/-- `A <- add8(A, v, F.C)` (R307). -/
def State.accAdc (s : State) (v : Byte) : State := s.setAF (add8 s.a v s.flags.c s.flags)

/-- `A <- sub8(A, v, 0)` (R308). -/
def State.accSub (s : State) (v : Byte) : State := s.setAF (sub8 s.a v false s.flags)

/-- `A <- sub8(A, v, F.C)` (R309). -/
def State.accSbc (s : State) (v : Byte) : State := s.setAF (sub8 s.a v s.flags.c s.flags)

/-- `A <- logic(AND, A, v)` (R310). -/
def State.accAnd (s : State) (v : Byte) : State := s.setAF (and8 s.a v s.flags)

/-- `A <- logic(XOR, A, v)` (R311). -/
def State.accXor (s : State) (v : Byte) : State := s.setAF (xor8 s.a v s.flags)

/-- `A <- logic(OR, A, v)` (R312). -/
def State.accOr (s : State) (v : Byte) : State := s.setAF (or8 s.a v s.flags)

/-- CP: the flags only (R313). -/
def State.accCp (s : State) (v : Byte) : State := s.setFlags (cp8 s.a v s.flags)

/-! ### The five operand forms (R305) -/

/-- Operand `reg8(z)`. -/
def aluR (f : State → Byte → State) (r : Reg8) (s : State) : Result := .next (f s (s.reg8 r))

/-- Operand (HL). -/
def aluIndHl (f : State → Byte → State) (s : State) : Result := .next ((f s (s.read8 s.hl)).spend 3)

/-- Operand n. -/
def aluN (f : State → Byte → State) (n : Byte) (s : State) : Result := .next ((f s n).spend 3)

/-- Operand IXYH or IXYL. -/
def aluXHalf (f : State → Byte → State) (x : Index) (q : Half) (s : State) : Result := .next (f s (s.indexHalf x q))

/-- Operand (IXY+d). -/
def aluIdx (f : State → Byte → State) (x : Index) (d : Byte) (s : State) : Result :=
  .next ((f (s.latchEa x d) (s.read8 (s.ea x d))).spend 11)

/-! ### ADD -/

/-- `ADD A,r` (R306). -/
def execAddR (r : Reg8) (s : State) : Result := aluR State.accAdd r s

/-- `ADD A,(HL)` (R306). -/
def execAddIndHl (s : State) : Result := aluIndHl State.accAdd s

/-- `ADD A,n` (R306). -/
def execAddN (n : Byte) (s : State) : Result := aluN State.accAdd n s

/-- `ADD A,IXYH/IXYL` (R306). -/
def execAddXHalf (x : Index) (q : Half) (s : State) : Result := aluXHalf State.accAdd x q s

/-- `ADD A,(IXY+d)` (R306). -/
def execAddIdx (x : Index) (d : Byte) (s : State) : Result := aluIdx State.accAdd x d s

/-! ### ADC -/

/-- `ADC A,r` (R307). -/
def execAdcR (r : Reg8) (s : State) : Result := aluR State.accAdc r s

/-- `ADC A,(HL)` (R307). -/
def execAdcIndHl (s : State) : Result := aluIndHl State.accAdc s

/-- `ADC A,n` (R307). -/
def execAdcN (n : Byte) (s : State) : Result := aluN State.accAdc n s

/-- `ADC A,IXYH/IXYL` (R307). -/
def execAdcXHalf (x : Index) (q : Half) (s : State) : Result := aluXHalf State.accAdc x q s

/-- `ADC A,(IXY+d)` (R307). -/
def execAdcIdx (x : Index) (d : Byte) (s : State) : Result := aluIdx State.accAdc x d s

/-! ### SUB  -/

/-- `SUB r` (R308). -/
def execSubR (r : Reg8) (s : State) : Result := aluR State.accSub r s

/-- `SUB (HL)` (R308). -/
def execSubIndHl (s : State) : Result := aluIndHl State.accSub s

/-- `SUB n` (R308). -/
def execSubN (n : Byte) (s : State) : Result := aluN State.accSub n s

/-- `SUB IXYH/IXYL` (R308). -/
def execSubXHalf (x : Index) (q : Half) (s : State) : Result := aluXHalf State.accSub x q s

/-- `SUB (IXY+d)` (R308). -/
def execSubIdx (x : Index) (d : Byte) (s : State) : Result := aluIdx State.accSub x d s

/-! ### SBC -/

/-- `SBC A,r` (R309). -/
def execSbcR (r : Reg8) (s : State) : Result := aluR State.accSbc r s

/-- `SBC A,(HL)` (R309). -/
def execSbcIndHl (s : State) : Result := aluIndHl State.accSbc s

/-- `SBC A,n` (R309). -/
def execSbcN (n : Byte) (s : State) : Result := aluN State.accSbc n s

/-- `SBC A,IXYH/IXYL` (R309). -/
def execSbcXHalf (x : Index) (q : Half) (s : State) : Result := aluXHalf State.accSbc x q s

/-- `SBC A,(IXY+d)` (R309). -/
def execSbcIdx (x : Index) (d : Byte) (s : State) : Result := aluIdx State.accSbc x d s

/-! ### AND  -/

/-- `AND r` (R310). -/
def execAndR (r : Reg8) (s : State) : Result := aluR State.accAnd r s

/-- `AND (HL)` (R310). -/
def execAndIndHl (s : State) : Result := aluIndHl State.accAnd s

/-- `AND n` (R310). -/
def execAndN (n : Byte) (s : State) : Result := aluN State.accAnd n s

/-- `AND IXYH/IXYL` (R310). -/
def execAndXHalf (x : Index) (q : Half) (s : State) : Result := aluXHalf State.accAnd x q s

/-- `AND (IXY+d)` (R310). -/
def execAndIdx (x : Index) (d : Byte) (s : State) : Result := aluIdx State.accAnd x d s

/-! ### XOR  -/

/-- `XOR r` (R311). -/
def execXorR (r : Reg8) (s : State) : Result := aluR State.accXor r s

/-- `XOR (HL)` (R311). -/
def execXorIndHl (s : State) : Result := aluIndHl State.accXor s

/-- `XOR n` (R311). -/
def execXorN (n : Byte) (s : State) : Result := aluN State.accXor n s

/-- `XOR IXYH/IXYL` (R311). -/
def execXorXHalf (x : Index) (q : Half) (s : State) : Result := aluXHalf State.accXor x q s

/-- `XOR (IXY+d)` (R311). -/
def execXorIdx (x : Index) (d : Byte) (s : State) : Result := aluIdx State.accXor x d s

/-! ### OR  -/

/-- `OR r` (R312). -/
def execOrR (r : Reg8) (s : State) : Result := aluR State.accOr r s

/-- `OR (HL)` (R312). -/
def execOrIndHl (s : State) : Result := aluIndHl State.accOr s

/-- `OR n` (R312). -/
def execOrN (n : Byte) (s : State) : Result := aluN State.accOr n s

/-- `OR IXYH/IXYL` (R312). -/
def execOrXHalf (x : Index) (q : Half) (s : State) : Result := aluXHalf State.accOr x q s

/-- `OR (IXY+d)` (R312). -/
def execOrIdx (x : Index) (d : Byte) (s : State) : Result := aluIdx State.accOr x d s

/-! ### CP  -/

/-- `CP r` (R313). -/
def execCpR (r : Reg8) (s : State) : Result := aluR State.accCp r s

/-- `CP (HL)` (R313). -/
def execCpIndHl (s : State) : Result := aluIndHl State.accCp s

/-- `CP n` (R313). -/
def execCpN (n : Byte) (s : State) : Result := aluN State.accCp n s

/-- `CP IXYH/IXYL` (R313). -/
def execCpXHalf (x : Index) (q : Half) (s : State) : Result := aluXHalf State.accCp x q s

/-- `CP (IXY+d)` (R313). -/
def execCpIdx (x : Index) (d : Byte) (s : State) : Result := aluIdx State.accCp x d s

/-! ### INC and DEC (R314 to R319): `f` is `inc8` or `dec8` -/

/-- On a register. -/
def stepR (f : Byte → Flags → Byte × Flags) (r : Reg8) (s : State) : Result :=
  .next ((s.setFlags (f (s.reg8 r) s.flags).2).setReg8 r (f (s.reg8 r) s.flags).1)

/-- On an index half. -/
def stepXHalf (f : Byte → Flags → Byte × Flags) (x : Index) (q : Half) (s : State) : Result :=
  .next ((s.setFlags (f (s.indexHalf x q) s.flags).2).setIndexHalf x q (f (s.indexHalf x q) s.flags).1)

/-- On the byte at `a`: read, then write. -/
def State.stepAt (s : State) (f : Byte → Flags → Byte × Flags) (a : Word) : State :=
  (s.setFlags (f (s.read8 a) s.flags).2).write8 a (f (s.read8 a) s.flags).1

/-- `INC r` (R314). -/
def execIncR (r : Reg8) (s : State) : Result := stepR inc8 r s

/-- `INC IXYH/IXYL` (R314). -/
def execIncXHalf (x : Index) (q : Half) (s : State) : Result := stepXHalf inc8 x q s

/-- `INC (HL)`: WZ is kept (R315). -/
def execIncIndHl (s : State) : Result := .next ((s.stepAt inc8 s.hl).spend 7)

/-- `INC (IXY+d)` (R316). -/
def execIncIdx (x : Index) (d : Byte) (s : State) : Result := .next (((s.latchEa x d).stepAt inc8 (s.ea x d)).spend 15)

/-- `DEC r` (R317). -/
def execDecR (r : Reg8) (s : State) : Result := stepR dec8 r s

/-- `DEC IXYH/IXYL` (R317). -/
def execDecXHalf (x : Index) (q : Half) (s : State) : Result := stepXHalf dec8 x q s

/-- `DEC (HL)`: WZ is kept (R318). -/
def execDecIndHl (s : State) : Result := .next ((s.stepAt dec8 s.hl).spend 7)

/-- `DEC (IXY+d)` (R319). -/
def execDecIdx (x : Index) (d : Byte) (s : State) : Result := .next (((s.latchEa x d).stepAt dec8 (s.ea x d)).spend 15)

/-! ### Accumulator and flag operations (R320 to R324) -/

/-- `DAA` (R320). -/
def execDaa (s : State) : Result := .next (s.setAF (daa8 s.a s.flags))

/-- `CPL`: Y and X from the new A (R321). -/
def execCpl (s : State) : Result :=
  .next (s.setAF (~~~s.a, { s.flags with h := true, n := true, y := (~~~s.a).getLsbD 5, x := (~~~s.a).getLsbD 3 }))

/-- `NEG`: `A <- sub8(0, A, 0)`; the field y does not matter (R322). -/
def execNeg (_y : Oct) (s : State) : Result := .next (s.setAF (sub8 0 s.a false s.flags))

/-- `SCF`: Y and X from A (R323). -/
def execScf (s : State) : Result :=
  .next (s.setFlags { s.flags with c := true, h := false, n := false, y := s.a.getLsbD 5, x := s.a.getLsbD 3 })

/-- `CCF`: H takes the old C (R324). -/
def execCcf (s : State) : Result :=
  .next (s.setFlags { s.flags with c := !s.flags.c, h := s.flags.c, n := false, y := s.a.getLsbD 5, x := s.a.getLsbD 3 })

end Sys2Proof.Machine
end

