-- ==== Sys2Proof/Machine/BitOps.lean ====
section
/-! DEFINITION. Bit test, reset and set (46_bit.md R400 to R408). -/

namespace Sys2Proof.Machine

open Sys2Proof

/-- `BIT b,r`: Y and X from the tested value (R400). -/
def execBitR (b : Oct) (r : Reg8) (s : State) : Result := .next (s.setFlags (bitFlags b (s.reg8 r) (s.reg8 r) s.flags))

/-- `BIT b,(HL)`: Y and X from W (R401). -/
def execBitIndHl (b : Oct) (s : State) : Result :=
  .next ((s.setFlags (bitFlags b (s.read8 s.hl) (hi s.wz) s.flags)).spend 4)

/-- `BIT b,(IXY+d)`: Y and X from the high byte of the address; z does not matter (R402). -/
def execBitIdx (x : Index) (d : Byte) (b _z : Oct) (s : State) : Result :=
  .next (((s.latchEa x d).setFlags (bitFlags b (s.read8 (s.ea x d)) (hi (s.ea x d)) s.flags)).spend 12)

/-- `v AND (0xFF XOR 2^b)` (R403). -/
def clearBit (b : Oct) (v : Byte) : Byte := v &&& (0xFF ^^^ bitMask b)

/-- `v OR 2^b` (R406). -/
def putBit (b : Oct) (v : Byte) : Byte := v ||| bitMask b

/-- On a register. -/
def changeR (f : Byte → Byte) (r : Reg8) (s : State) : Result := .next (s.setReg8 r (f (s.reg8 r)))

/-- On (HL). -/
def changeIndHl (f : Byte → Byte) (s : State) : Result := .next ((s.write8 s.hl (f (s.read8 s.hl))).spend 7)

/-- On (IXY+d). -/
def changeIdx (f : Byte → Byte) (x : Index) (d : Byte) (s : State) : Result :=
  .next (((s.latchEa x d).write8 (s.ea x d) (f (s.read8 (s.ea x d)))).spend 15)

/-- On (IXY+d), the result also copied to a register (undocumented; H and L are H and L). -/
def changeIdxR (f : Byte → Byte) (x : Index) (d : Byte) (r : Reg8) (s : State) : Result :=
  .next ((((s.latchEa x d).write8 (s.ea x d) (f (s.read8 (s.ea x d)))).setReg8 r (f (s.read8 (s.ea x d)))).spend 15)

/-- `RES b,r` (R403). -/
def execResR (b : Oct) (r : Reg8) (s : State) : Result := changeR (clearBit b) r s

/-- `RES b,(HL)` (R404). -/
def execResIndHl (b : Oct) (s : State) : Result := changeIndHl (clearBit b) s

/-- `RES b,(IXY+d)` (R405). -/
def execResIdx (x : Index) (d : Byte) (b : Oct) (s : State) : Result := changeIdx (clearBit b) x d s

/-- `RES b,(IXY+d),r` (R405). -/
def execResIdxR (x : Index) (d : Byte) (b : Oct) (r : Reg8) (s : State) : Result := changeIdxR (clearBit b) x d r s

/-- `SET b,r` (R406). -/
def execSetR (b : Oct) (r : Reg8) (s : State) : Result := changeR (putBit b) r s

/-- `SET b,(HL)` (R407). -/
def execSetIndHl (b : Oct) (s : State) : Result := changeIndHl (putBit b) s

/-- `SET b,(IXY+d)` (R408). -/
def execSetIdx (x : Index) (d : Byte) (b : Oct) (s : State) : Result := changeIdx (putBit b) x d s

/-- `SET b,(IXY+d),r` (R408). -/
def execSetIdxR (x : Index) (d : Byte) (b : Oct) (r : Reg8) (s : State) : Result := changeIdxR (putBit b) x d r s

end Sys2Proof.Machine
end

