-- ==== Sys2Proof/Machine/Control.lean ====
section
/-! DEFINITION. Jumps, calls, returns and restarts (47_control.md R420 to R433). The PC that a meaning sees is the address
after the whole instruction (10_state.md R35). -/

namespace Sys2Proof.Machine

open Sys2Proof

/-- `PC <- a; WZ <- a`. -/
def State.goTo (s : State) (a : Word) : State := { s with pc := a, wz := a }

/-- The target of a relative jump (R422). -/
def State.relative (s : State) (e : Byte) : Word := s.pc + sext16 e

/-- `JP nn` (R420). -/
def execJpNn (nn : Word) (s : State) : Result := .next ((s.goTo nn).spend 6)

/-- `JP cc,nn`: WZ is set in either case (R421). -/
def execJpCcNn (cc : Cond) (nn : Word) (s : State) : Result :=
  .next ((if s.holds cc then s.goTo nn else { s with wz := nn }).spend 6)

/-- `JR e` (R422). -/
def execJr (e : Byte) (s : State) : Result := .next ((s.goTo (s.relative e)).spend 8)

/-- `JR cc,e` (R423). -/
def execJrCc (cc : JrCond) (e : Byte) (s : State) : Result :=
  .next (if s.holdsJr cc then (s.goTo (s.relative e)).spend 8 else s.spend 3)

/-- `DJNZ e` (R424). -/
def execDjnz (e : Byte) (s : State) : Result :=
  let b := s.reg8 .b - 1
  let s' := s.setReg8 .b b
  .next (if b != 0 then (s'.goTo (s.relative e)).spend 9 else s'.spend 4)

/-- `JP (HL)`: WZ is kept (R425). -/
def execJpIndHl (s : State) : Result := .next { s with pc := s.hl }

/-- `JP (IXY)`: WZ is kept (R426). -/
def execJpX (x : Index) (s : State) : Result := .next { s with pc := s.index x }

/-- `CALL nn` (R427). -/
def execCallNn (nn : Word) (s : State) : Result := .next (((s.push16 s.pc).goTo nn).spend 13)

/-- `CALL cc,nn`: WZ is set in either case (R428). -/
def execCallCcNn (cc : Cond) (nn : Word) (s : State) : Result :=
  .next (if s.holds cc then ((s.push16 s.pc).goTo nn).spend 13 else ({ s with wz := nn }).spend 6)

/-- `RET` (R429). -/
def execRet (s : State) : Result := .next ((s.dropped16.goTo s.top16).spend 6)

/-- `RET cc` (R430). -/
def execRetCc (cc : Cond) (s : State) : Result :=
  .next (if s.holds cc then (s.dropped16.goTo s.top16).spend 7 else s.spend 1)

/-- `RETI` (R431). -/
def execReti (s : State) : Result := .next (s.leaveHandler.spend 6)

/-- `RETN`; the field y does not matter (R432). -/
def execRetn (_y : Oct) (s : State) : Result := .next (s.leaveHandler.spend 6)

/-- `RST p`, p = y * 8 (R433). -/
def execRst (y : Oct) (s : State) : Result :=
  .next (((s.push16 s.pc).goTo (BitVec.ofNat 16 (octVal y * 8))).spend 7)

end Sys2Proof.Machine
end

