-- ==== Sys2Proof/Machine/CpuControl.lean ====
section
/-! DEFINITION. CPU control and the prefix steps (49_cpu_control.md R490 to R501). -/

namespace Sys2Proof.Machine

open Sys2Proof

/-- `NOP`: nothing beyond the fetch (R490). -/
def execNop (s : State) : Result := .next s

/-- `HALT`: the PC stays after the HALT byte (R491). -/
def execHalt (s : State) : Result := .next { s with halted := true }

/-- `DI` (R492). -/
def execDi (s : State) : Result := .next { s with iff1 := false, iff2 := false }

/-- `EI`: the interrupt-blocked flag is set (R493). -/
def execEi (s : State) : Result := .next { s with iff1 := true, iff2 := true, blocked := true }

/-- `IM 0`; the field y does not matter (R494). -/
def execIm0 (_y : Oct) (s : State) : Result := .next { s with im := .im0 }

/-- `IM 1`; the field y does not matter (R495). -/
def execIm1 (_y : Oct) (s : State) : Result := .next { s with im := .im1 }

/-- `IM 2`; the field y does not matter (R496). -/
def execIm2 (_y : Oct) (s : State) : Result := .next { s with im := .im2 }

/-- An undefined ED opcode: nothing beyond the two fetches (R497). -/
def execNopEd (_op : Byte) (s : State) : Result := .next s

/-- The effect of a DD or FD byte: the index mode, whatever it was (R114). -/
def State.selectIndex (s : State) (x : Index) : State := { s with indexMode := some x }

/-- The effect of an ED byte: the index mode is cancelled (R114). -/
def State.selectExtended (s : State) : State := { s with prefixMode := .extended, indexMode := none }

/-- The effect of a CB byte: the index mode is kept (R114). -/
def State.selectBit (s : State) : State := { s with prefixMode := .bit }

/-- The DD prefix step in context None (R498). -/
def execDdPrefix (s : State) : Result := .next (s.selectIndex .ix)

/-- The FD prefix step in context None (R499). -/
def execFdPrefix (s : State) : Result := .next (s.selectIndex .iy)

/-- The CB prefix step in context None (R500). -/
def execCbPrefix (s : State) : Result := .next s.selectBit

/-- The ED prefix step in context None (R501). -/
def execEdPrefix (s : State) : Result := .next s.selectExtended

/-- The DD prefix step in context IX or IY: it replaces the earlier prefix (R498). -/
def execDdPrefixX (_x : Index) (s : State) : Result := .next (s.selectIndex .ix)

/-- The FD prefix step in context IX or IY: it replaces the earlier prefix (R499). -/
def execFdPrefixX (_x : Index) (s : State) : Result := .next (s.selectIndex .iy)

/-- The CB prefix step in context IX or IY: IXCB or IYCB follows (R500). -/
def execCbPrefixX (_x : Index) (s : State) : Result := .next s.selectBit

/-- The ED prefix step in context IX or IY: it cancels the index mode (R501). -/
def execEdPrefixX (_x : Index) (s : State) : Result := .next s.selectExtended

end Sys2Proof.Machine
end

