-- ==== Sys2Proof/Machine/Block.lean ====
section
/-! DEFINITION. Block transfer and block search (42_block_transfer_search.md R280 to R288). -/

namespace Sys2Proof.Machine

open Sys2Proof

/-- The body of LDI and LDD: HL and DE move by `delta`, which is 1 or -1 (R280, R281). -/
def State.blockLoad (s : State) (delta : Word) : State :=
  let t := s.read8 s.hl
  let s' := ({ s.write8 s.de t with hl := s.hl + delta, de := s.de + delta, bc := s.bc - 1 }).spend 8
  s'.setFlags (blockLoadFlags t s.a (s.bc - 1 != 0) s.flags)

/-- The body of CPI and CPD: HL and WZ move by `delta`, A is kept (R284, R285). -/
def State.blockCompare (s : State) (delta : Word) : State :=
  let t := s.read8 s.hl
  let s' := ({ s with hl := s.hl + delta, bc := s.bc - 1, wz := s.wz + delta }).spend 8
  s'.setFlags (blockCompareFlags s.a t (s.bc - 1 != 0) s.flags)

/-- `Repeat()` where the condition holds (R288). -/
def State.repeatIf (s : State) (again : Bool) : State := if again then s.repeatInstr else s

/-- `LDI` (R280). -/
def execLdi (s : State) : Result := .next (s.blockLoad 1)

/-- `LDD` (R281). -/
def execLdd (s : State) : Result := .next (s.blockLoad (-1))

/-- `LDIR`: repeats while BC != 0 (R282). -/
def execLdir (s : State) : Result := .next ((s.blockLoad 1).repeatIf (s.bc - 1 != 0))

/-- `LDDR`: repeats while BC != 0 (R283). -/
def execLddr (s : State) : Result := .next ((s.blockLoad (-1)).repeatIf (s.bc - 1 != 0))

/-- `CPI` (R284). -/
def execCpi (s : State) : Result := .next (s.blockCompare 1)

/-- `CPD` (R285). -/
def execCpd (s : State) : Result := .next (s.blockCompare (-1))

/-- `CPIR`: repeats while BC != 0 and A - t != 0 (R286). -/
def execCpir (s : State) : Result :=
  .next ((s.blockCompare 1).repeatIf (s.bc - 1 != 0 && s.a - s.read8 s.hl != 0))

/-- `CPDR`: repeats while BC != 0 and A - t != 0 (R287). -/
def execCpdr (s : State) : Result :=
  .next ((s.blockCompare (-1)).repeatIf (s.bc - 1 != 0 && s.a - s.read8 s.hl != 0))

end Sys2Proof.Machine
end

