-- ==== Sys2Proof/Machine/InOut.lean ====
section
/-! DEFINITION. Input and output (48_io.md R460 to R474). -/

namespace Sys2Proof.Machine

open Sys2Proof

/-- `IN A,(n)`: the port is A:n with the old A (R460). -/
def execInAIndN (n : Byte) (s : State) : Result :=
  let port := word s.a n
  .next (({ s.portDrawn.setReg8 .a (s.portByte port) with wz := port + 1 }).spend 7)

/-- `OUT (n),A`: Z is n + 1 with no carry into W (R461). -/
def execOutIndNA (n : Byte) (s : State) : Result :=
  .next (({ s.portWrite (word s.a n) s.a with wz := word s.a (n + 1) }).spend 7)

/-- The port read of IN r,(C) and IN (C): WZ and the flags (R462, R463). -/
def State.inFromBc (s : State) : State :=
  (({ s.portDrawn with wz := s.bc + 1 }).setFlags (inFlags (s.portByte s.bc) s.flags)).spend 4

/-- `IN r,(C)` (R462). -/
def execInRIndC (r : Reg8) (s : State) : Result := .next (s.inFromBc.setReg8 r (s.portByte s.bc))

/-- `IN (C)`: no register gets the byte (R463). -/
def execInIndC (s : State) : Result := .next s.inFromBc

/-- The port write of OUT (C),r and OUT (C),0 (R464, R465). -/
def State.outToBc (s : State) (v : Byte) : State := ({ s.portWrite s.bc v with wz := s.bc + 1 }).spend 4

/-- `OUT (C),r` (R464). -/
def execOutIndCR (r : Reg8) (s : State) : Result := .next (s.outToBc (s.reg8 r))

/-- `OUT (C),0`: 0x00, the NMOS value (R465). -/
def execOutIndC0 (s : State) : Result := .next (s.outToBc 0x00)

/-- The body of INI and IND: the port is BC before B is decremented; `delta` is 1 or -1 (R467, R468). -/
def State.blockIn (s : State) (delta : Word) : State :=
  let t := s.portByte s.bc
  let b := s.reg8 .b - 1
  let k := t.toNat + (s.reg8 .c + lo delta).toNat
  let s' := ({ (s.portDrawn.write8 s.hl t).setReg8 .b b with wz := s.bc + delta, hl := s.hl + delta }).spend 8
  s'.setFlags (ioFlags t b k s.flags)

/-- The body of OUTI and OUTD: the port is BC after B is decremented; k uses L of the new HL (R471, R472). -/
def State.blockOut (s : State) (delta : Word) : State :=
  let t := s.read8 s.hl
  let b := s.reg8 .b - 1
  let port := word b (s.reg8 .c)
  let k := t.toNat + (lo (s.hl + delta)).toNat
  let s' := ({ (s.portWrite port t).setReg8 .b b with wz := port + delta, hl := s.hl + delta }).spend 8
  s'.setFlags (ioFlags t b k s.flags)

/-- `INI` (R467). -/
def execIni (s : State) : Result := .next (s.blockIn 1)

/-- `IND` (R468). -/
def execInd (s : State) : Result := .next (s.blockIn (-1))

/-- `INIR`: repeats while B != 0 (R469). -/
def execInir (s : State) : Result := .next ((s.blockIn 1).repeatIf (s.reg8 .b - 1 != 0))

/-- `INDR`: repeats while B != 0 (R470). -/
def execIndr (s : State) : Result := .next ((s.blockIn (-1)).repeatIf (s.reg8 .b - 1 != 0))

/-- `OUTI` (R471). -/
def execOuti (s : State) : Result := .next (s.blockOut 1)

/-- `OUTD` (R472). -/
def execOutd (s : State) : Result := .next (s.blockOut (-1))

/-- `OTIR`: repeats while B != 0 (R473). -/
def execOtir (s : State) : Result := .next ((s.blockOut 1).repeatIf (s.reg8 .b - 1 != 0))

/-- `OTDR`: repeats while B != 0 (R474). -/
def execOtdr (s : State) : Result := .next ((s.blockOut (-1)).repeatIf (s.reg8 .b - 1 != 0))

end Sys2Proof.Machine
end

