-- ==== Sys2Proof/Machine/Load16.lean ====
section
/-! DEFINITION. The 16-bit loads, the stack and the exchanges (41_load16_exchange.md R240 to R258). -/

namespace Sys2Proof.Machine

open Sys2Proof

/-- `LD rr,nn` (R240). -/
def execLdRpNn (p : Pair) (nn : Word) (s : State) : Result := .next ((s.setPair p nn).spend 6)

/-- `LD IXY,nn` (R241). -/
def execLdXNn (x : Index) (nn : Word) (s : State) : Result := .next ((s.setIndex x nn).spend 6)

/-- `WZ <- nn + 1`, as every 16-bit load or store at an address does (R242 to R247). -/
def State.latchNext (s : State) (nn : Word) : State := { s with wz := nn + 1 }

/-- `LD HL,(nn)` (R242). -/
def execLdHlIndNn (nn : Word) (s : State) : Result := .next (((s.setPair .hl (s.read16 nn)).latchNext nn).spend 12)

/-- `LD (nn),HL` (R243). -/
def execLdIndNnHl (nn : Word) (s : State) : Result := .next (((s.write16 nn s.hl).latchNext nn).spend 12)

/-- `LD IXY,(nn)` (R244). -/
def execLdXIndNn (x : Index) (nn : Word) (s : State) : Result := .next (((s.setIndex x (s.read16 nn)).latchNext nn).spend 12)

/-- `LD (nn),IXY` (R245). -/
def execLdIndNnX (x : Index) (nn : Word) (s : State) : Result := .next (((s.write16 nn (s.index x)).latchNext nn).spend 12)

/-- `LD rr,(nn)`, the ED form: HL is HL (R246). -/
def execLdRpIndNn (p : Pair) (nn : Word) (s : State) : Result := .next (((s.setPair p (s.read16 nn)).latchNext nn).spend 12)

/-- `LD (nn),rr`, the ED form (R247). -/
def execLdIndNnRp (p : Pair) (nn : Word) (s : State) : Result := .next (((s.write16 nn (s.pair p)).latchNext nn).spend 12)

/-- `LD SP,HL` (R248). -/
def execLdSpHl (s : State) : Result := .next (({ s with sp := s.hl }).spend 2)

/-- `LD SP,IXY` (R249). -/
def execLdSpX (x : Index) (s : State) : Result := .next (({ s with sp := s.index x }).spend 2)

/-- `PUSH qq` (R250). -/
def execPushRp (q : StackPair) (s : State) : Result := .next ((s.push16 (s.stackPair q)).spend 7)

/-- `PUSH IXY` (R251). -/
def execPushX (x : Index) (s : State) : Result := .next ((s.push16 (s.index x)).spend 7)

/-- `POP qq`: `POP AF` writes all eight flags (R252). -/
def execPopRp (q : StackPair) (s : State) : Result := .next ((s.dropped16.setStackPair q s.top16).spend 6)

/-- `POP IXY` (R253). -/
def execPopX (x : Index) (s : State) : Result := .next ((s.dropped16.setIndex x s.top16).spend 6)

/-- `EX DE,HL` (R254). -/
def execExDeHl (s : State) : Result := .next { s with de := s.hl, hl := s.de }

/-- The memory side of `EX (SP),v`: (SP + 1) is written first, then (SP) (R84, R255, R258). -/
def State.replaceTop (s : State) (v : Word) : State := (s.write8 (s.sp + 1) (hi v)).write8 s.sp (lo v)

/-- `EX (SP),HL` (R255). -/
def execExIndSpHl (s : State) : Result := .next (({ s.replaceTop s.hl with hl := s.top16, wz := s.top16 }).spend 15)

/-- `EX (SP),IXY` (R258). -/
def execExIndSpX (x : Index) (s : State) : Result :=
  .next (({ (s.replaceTop (s.index x)).setIndex x s.top16 with wz := s.top16 }).spend 15)

/-- `EX AF,AF'` (R256). -/
def execExAfAf (s : State) : Result := .next { s with af := s.afShadow, afShadow := s.af }

/-- `EXX` (R257). -/
def execExx (s : State) : Result :=
  .next { s with
    bc := s.bcShadow, bcShadow := s.bc
    de := s.deShadow, deShadow := s.de
    hl := s.hlShadow, hlShadow := s.hl }

end Sys2Proof.Machine
end

