-- ==== Sys2Proof/Machine/Rotate.lean ====
section
/-! DEFINITION. Rotates and shifts (45_rotate_shift.md R370 to R384). -/

namespace Sys2Proof.Machine

open Sys2Proof

/-! ### Accumulator rotates (R370 to R373) -/

/-- A rotate of A that keeps S, Z and PV. -/
def State.accRotate (s : State) (f : Byte → Bool → Byte × Bool) : State :=
  s.setAF ((f s.a s.flags.c).1, accRotFlags (f s.a s.flags.c) s.flags)

/-- `RLCA` (R370). -/
def execRlca (s : State) : Result := .next (s.accRotate rlc8)

/-- `RRCA` (R371). -/
def execRrca (s : State) : Result := .next (s.accRotate rrc8)

/-- `RLA` (R372). -/
def execRla (s : State) : Result := .next (s.accRotate rl8)

/-- `RRA` (R373). -/
def execRra (s : State) : Result := .next (s.accRotate rr8)

/-! ### The forms of the CB operations (R374) -/

/-- On a register, H and L not substituted. -/
def rotR (f : Byte → Bool → Byte × Bool) (r : Reg8) (s : State) : Result :=
  let out := f (s.reg8 r) s.flags.c
  .next ((s.setFlags (rotFlags out s.flags)).setReg8 r out.1)

/-- On the byte at `a`: read, then write. -/
def State.rotateAt (s : State) (f : Byte → Bool → Byte × Bool) (a : Word) : State :=
  let out := f (s.read8 a) s.flags.c
  (s.setFlags (rotFlags out s.flags)).write8 a out.1

/-- On (HL): WZ is kept. -/
def rotIndHl (f : Byte → Bool → Byte × Bool) (s : State) : Result := .next ((s.rotateAt f s.hl).spend 7)

/-- On (IXY+d). -/
def rotIdx (f : Byte → Bool → Byte × Bool) (x : Index) (d : Byte) (s : State) : Result :=
  .next (((s.latchEa x d).rotateAt f (s.ea x d)).spend 15)

/-- On (IXY+d), the result also copied to a register (undocumented; H and L are H and L). -/
def rotIdxR (f : Byte → Bool → Byte × Bool) (x : Index) (d : Byte) (r : Reg8) (s : State) : Result :=
  .next ((((s.latchEa x d).rotateAt f (s.ea x d)).setReg8 r (f (s.read8 (s.ea x d)) s.flags.c).1).spend 15)

/-! ### RLC (R375) -/

/-- `RLC r`. -/
def execRlcR (r : Reg8) (s : State) : Result := rotR rlc8 r s

/-- `RLC (HL)`. -/
def execRlcIndHl (s : State) : Result := rotIndHl rlc8 s

/-- `RLC (IXY+d)`. -/
def execRlcIdx (x : Index) (d : Byte) (s : State) : Result := rotIdx rlc8 x d s

/-- `RLC (IXY+d),r`. -/
def execRlcIdxR (x : Index) (d : Byte) (r : Reg8) (s : State) : Result := rotIdxR rlc8 x d r s

/-! ### RRC (R376) -/

/-- `RRC r`. -/
def execRrcR (r : Reg8) (s : State) : Result := rotR rrc8 r s

/-- `RRC (HL)`. -/
def execRrcIndHl (s : State) : Result := rotIndHl rrc8 s

/-- `RRC (IXY+d)`. -/
def execRrcIdx (x : Index) (d : Byte) (s : State) : Result := rotIdx rrc8 x d s

/-- `RRC (IXY+d),r`. -/
def execRrcIdxR (x : Index) (d : Byte) (r : Reg8) (s : State) : Result := rotIdxR rrc8 x d r s

/-! ### RL (R377) -/

/-- `RL r`. -/
def execRlR (r : Reg8) (s : State) : Result := rotR rl8 r s

/-- `RL (HL)`. -/
def execRlIndHl (s : State) : Result := rotIndHl rl8 s

/-- `RL (IXY+d)`. -/
def execRlIdx (x : Index) (d : Byte) (s : State) : Result := rotIdx rl8 x d s

/-- `RL (IXY+d),r`. -/
def execRlIdxR (x : Index) (d : Byte) (r : Reg8) (s : State) : Result := rotIdxR rl8 x d r s

/-! ### RR (R378) -/

/-- `RR r`. -/
def execRrR (r : Reg8) (s : State) : Result := rotR rr8 r s

/-- `RR (HL)`. -/
def execRrIndHl (s : State) : Result := rotIndHl rr8 s

/-- `RR (IXY+d)`. -/
def execRrIdx (x : Index) (d : Byte) (s : State) : Result := rotIdx rr8 x d s

/-- `RR (IXY+d),r`. -/
def execRrIdxR (x : Index) (d : Byte) (r : Reg8) (s : State) : Result := rotIdxR rr8 x d r s

/-! ### SLA (R379) -/

/-- `SLA r`. -/
def execSlaR (r : Reg8) (s : State) : Result := rotR sla8 r s

/-- `SLA (HL)`. -/
def execSlaIndHl (s : State) : Result := rotIndHl sla8 s

/-- `SLA (IXY+d)`. -/
def execSlaIdx (x : Index) (d : Byte) (s : State) : Result := rotIdx sla8 x d s

/-- `SLA (IXY+d),r`. -/
def execSlaIdxR (x : Index) (d : Byte) (r : Reg8) (s : State) : Result := rotIdxR sla8 x d r s

/-! ### SRA (R380) -/

/-- `SRA r`. -/
def execSraR (r : Reg8) (s : State) : Result := rotR sra8 r s

/-- `SRA (HL)`. -/
def execSraIndHl (s : State) : Result := rotIndHl sra8 s

/-- `SRA (IXY+d)`. -/
def execSraIdx (x : Index) (d : Byte) (s : State) : Result := rotIdx sra8 x d s

/-- `SRA (IXY+d),r`. -/
def execSraIdxR (x : Index) (d : Byte) (r : Reg8) (s : State) : Result := rotIdxR sra8 x d r s

/-! ### SLL (R381) -/

/-- `SLL r`. -/
def execSllR (r : Reg8) (s : State) : Result := rotR sll8 r s

/-- `SLL (HL)`. -/
def execSllIndHl (s : State) : Result := rotIndHl sll8 s

/-- `SLL (IXY+d)`. -/
def execSllIdx (x : Index) (d : Byte) (s : State) : Result := rotIdx sll8 x d s

/-- `SLL (IXY+d),r`. -/
def execSllIdxR (x : Index) (d : Byte) (r : Reg8) (s : State) : Result := rotIdxR sll8 x d r s

/-! ### SRL (R382) -/

/-- `SRL r`. -/
def execSrlR (r : Reg8) (s : State) : Result := rotR srl8 r s

/-- `SRL (HL)`. -/
def execSrlIndHl (s : State) : Result := rotIndHl srl8 s

/-- `SRL (IXY+d)`. -/
def execSrlIdx (x : Index) (d : Byte) (s : State) : Result := rotIdx srl8 x d s

/-- `SRL (IXY+d),r`. -/
def execSrlIdxR (x : Index) (d : Byte) (r : Reg8) (s : State) : Result := rotIdxR srl8 x d r s

/-! ### Decimal digit rotates (R383, R384) -/

/-- RLD and RRD: the byte at HL becomes `m`, A becomes `a`, WZ is HL + 1. -/
def State.rotateDigits (s : State) (m a : Byte) : State :=
  ({ (s.write8 s.hl m).setAF (a, digitFlags a s.flags) with wz := s.hl + 1 }).spend 10

/-- `RLD` (R383). -/
def execRld (s : State) : Result :=
  let t := s.read8 s.hl
  .next (s.rotateDigits (lowDigit t ++ lowDigit s.a) (highDigit s.a ++ highDigit t))

/-- `RRD` (R384). -/
def execRrd (s : State) : Result :=
  let t := s.read8 s.hl
  .next (s.rotateDigits (lowDigit s.a ++ highDigit t) (highDigit s.a ++ lowDigit t))

end Sys2Proof.Machine
end

