-- ==== Sys2Proof/Machine/Fallback.lean ====
section
/-! DEFINITION. The fall-back of contexts IX and IY (30_encoding.md R115): a byte that no IX|IY row matches is executed exactly
as its context-None instruction, with H, L, HL and (HL) unchanged.

`exec` cannot call itself here (its arms are direct calls of meanings), so the context-None instructions that can stand after a
DD or FD are named once more; `Instr.unsubstituted` (WellFormed) is the same list, and no other instruction is decoded so. -/

namespace Sys2Proof.Machine

open Sys2Proof

/-- `(any other opcode: decoded as in context None, index mode ignored)` (R115). -/
def execAnyOther (_x : Index) (j : Instr) (s : State) : Result :=
  match j with
  | .nop => execNop s
  | .exAfAf => execExAfAf s
  | .djnz e => execDjnz e s
  | .jr e => execJr e s
  | .jrCc cc e => execJrCc cc e s
  | .ldRpNn p nn => execLdRpNn p nn s
  | .incRp p => execIncRp p s
  | .decRp p => execDecRp p s
  | .ldIndBcA => execLdIndBcA s
  | .ldIndDeA => execLdIndDeA s
  | .ldIndNnA nn => execLdIndNnA nn s
  | .ldAIndBc => execLdAIndBc s
  | .ldAIndDe => execLdAIndDe s
  | .ldAIndNn nn => execLdAIndNn nn s
  | .incR r => execIncR r s
  | .decR r => execDecR r s
  | .ldRN r n => execLdRN r n s
  | .rlca => execRlca s
  | .rrca => execRrca s
  | .rla => execRla s
  | .rra => execRra s
  | .daa => execDaa s
  | .cpl => execCpl s
  | .scf => execScf s
  | .ccf => execCcf s
  | .halt => execHalt s
  | .ldRR dst src => execLdRR dst src s
  | .addR r => execAddR r s
  | .adcR r => execAdcR r s
  | .subR r => execSubR r s
  | .sbcR r => execSbcR r s
  | .andR r => execAndR r s
  | .xorR r => execXorR r s
  | .orR r => execOrR r s
  | .cpR r => execCpR r s
  | .addN n => execAddN n s
  | .adcN n => execAdcN n s
  | .subN n => execSubN n s
  | .sbcN n => execSbcN n s
  | .andN n => execAndN n s
  | .xorN n => execXorN n s
  | .orN n => execOrN n s
  | .cpN n => execCpN n s
  | .retCc cc => execRetCc cc s
  | .ret => execRet s
  | .exx => execExx s
  | .jpCcNn cc nn => execJpCcNn cc nn s
  | .jpNn nn => execJpNn nn s
  | .outIndNA n => execOutIndNA n s
  | .inAIndN n => execInAIndN n s
  | .exDeHl => execExDeHl s
  | .di => execDi s
  | .ei => execEi s
  | .popRp q => execPopRp q s
  | .pushRp q => execPushRp q s
  | .callCcNn cc nn => execCallCcNn cc nn s
  | .callNn nn => execCallNn nn s
  | .rst y => execRst y s
  | .addHlRp _ | .ldIndNnHl _ | .ldHlIndNn _ | .incIndHl | .decIndHl | .ldIndHlN _ | .ldRIndHl _ | .ldIndHlR _ => .refused .notFallback
  | .addIndHl | .adcIndHl | .subIndHl | .sbcIndHl | .andIndHl | .xorIndHl | .orIndHl | .cpIndHl | .jpIndHl => .refused .notFallback
  | .ldSpHl | .cbPrefix | .exIndSpHl | .ddPrefix | .edPrefix | .fdPrefix | .addXRp _ _ | .ldXNn _ _ => .refused .notFallback
  | .ldIndNnX _ _ | .ldXIndNn _ _ | .incX _ | .decX _ | .incXHalf _ _ | .decXHalf _ _ | .ldXHalfN _ _ _ => .refused .notFallback
  | .incIdx _ _ | .decIdx _ _ | .ldIdxN _ _ _ | .ldRRHalves _ _ _ | .ldRIdx _ _ _ | .ldIdxR _ _ _ => .refused .notFallback
  | .addXHalf _ _ | .addIdx _ _ | .adcXHalf _ _ | .adcIdx _ _ | .subXHalf _ _ | .subIdx _ _ | .sbcXHalf _ _ => .refused .notFallback
  | .sbcIdx _ _ | .andXHalf _ _ | .andIdx _ _ | .xorXHalf _ _ | .xorIdx _ _ | .orXHalf _ _ | .orIdx _ _ => .refused .notFallback
  | .cpXHalf _ _ | .cpIdx _ _ | .popX _ | .exIndSpX _ | .pushX _ | .jpX _ | .ldSpX _ | .cbPrefixX _ => .refused .notFallback
  | .ddPrefixX _ | .edPrefixX _ | .fdPrefixX _ | .anyOther _ _ | .rlcR _ | .rlcIndHl | .rrcR _ | .rrcIndHl => .refused .notFallback
  | .rlR _ | .rlIndHl | .rrR _ | .rrIndHl | .slaR _ | .slaIndHl | .sraR _ | .sraIndHl | .sllR _ | .sllIndHl => .refused .notFallback
  | .srlR _ | .srlIndHl | .bitR _ _ | .bitIndHl _ | .resR _ _ | .resIndHl _ | .setR _ _ | .setIndHl _ => .refused .notFallback
  | .rlcIdx _ _ | .rlcIdxR _ _ _ | .rrcIdx _ _ | .rrcIdxR _ _ _ | .rlIdx _ _ | .rlIdxR _ _ _ | .rrIdx _ _ => .refused .notFallback
  | .rrIdxR _ _ _ | .slaIdx _ _ | .slaIdxR _ _ _ | .sraIdx _ _ | .sraIdxR _ _ _ | .sllIdx _ _ | .sllIdxR _ _ _ => .refused .notFallback
  | .srlIdx _ _ | .srlIdxR _ _ _ | .bitIdx _ _ _ _ | .resIdx _ _ _ | .resIdxR _ _ _ _ | .setIdx _ _ _ => .refused .notFallback
  | .setIdxR _ _ _ _ | .inRIndC _ | .inIndC | .outIndCR _ | .outIndC0 | .sbcHlRp _ | .adcHlRp _ | .ldIndNnRp _ _ => .refused .notFallback
  | .ldRpIndNn _ _ | .neg _ | .retn _ | .reti | .im0 _ | .im1 _ | .im2 _ | .ldIA | .ldRegRA | .ldAI | .ldARegR => .refused .notFallback
  | .rrd | .rld | .ldi | .ldd | .ldir | .lddr | .cpi | .cpd | .cpir | .cpdr | .ini | .ind | .inir | .indr => .refused .notFallback
  | .outi | .outd | .otir | .otdr | .nopEd _ => .refused .notFallback

end Sys2Proof.Machine
end

