-- ==== Sys2Proof/Machine/Dispatch.lean ====
section
/-! DEFINITION. The dispatch: one arm for each constructor of `Instr`, each one direct call of that instruction's meaning.
The state given to `exec` is the one after the step's own fetch (60_exceptions.md R611): the PC is already the address
after the instruction's last byte (10_state.md R35). -/

namespace Sys2Proof.Machine

open Sys2Proof

def exec (i : Instr) (s : State) : Host.Outcome State Fault Refusal :=
  match i with
  -- context None
  | .nop => Sys2Proof.Machine.execNop s
  | .exAfAf => Sys2Proof.Machine.execExAfAf s
  | .djnz e => Sys2Proof.Machine.execDjnz e s
  | .jr e => Sys2Proof.Machine.execJr e s
  | .jrCc cc e => Sys2Proof.Machine.execJrCc cc e s
  | .ldRpNn p nn => Sys2Proof.Machine.execLdRpNn p nn s
  | .addHlRp p => Sys2Proof.Machine.execAddHlRp p s
  | .ldIndBcA => Sys2Proof.Machine.execLdIndBcA s
  | .ldIndDeA => Sys2Proof.Machine.execLdIndDeA s
  | .ldIndNnHl nn => Sys2Proof.Machine.execLdIndNnHl nn s
  | .ldIndNnA nn => Sys2Proof.Machine.execLdIndNnA nn s
  | .ldAIndBc => Sys2Proof.Machine.execLdAIndBc s
  | .ldAIndDe => Sys2Proof.Machine.execLdAIndDe s
  | .ldHlIndNn nn => Sys2Proof.Machine.execLdHlIndNn nn s
  | .ldAIndNn nn => Sys2Proof.Machine.execLdAIndNn nn s
  | .incRp p => Sys2Proof.Machine.execIncRp p s
  | .decRp p => Sys2Proof.Machine.execDecRp p s
  | .incR r => Sys2Proof.Machine.execIncR r s
  | .incIndHl => Sys2Proof.Machine.execIncIndHl s
  | .decR r => Sys2Proof.Machine.execDecR r s
  | .decIndHl => Sys2Proof.Machine.execDecIndHl s
  | .ldRN r n => Sys2Proof.Machine.execLdRN r n s
  | .ldIndHlN n => Sys2Proof.Machine.execLdIndHlN n s
  | .rlca => Sys2Proof.Machine.execRlca s
  | .rrca => Sys2Proof.Machine.execRrca s
  | .rla => Sys2Proof.Machine.execRla s
  | .rra => Sys2Proof.Machine.execRra s
  | .daa => Sys2Proof.Machine.execDaa s
  | .cpl => Sys2Proof.Machine.execCpl s
  | .scf => Sys2Proof.Machine.execScf s
  | .ccf => Sys2Proof.Machine.execCcf s
  | .ldRR dst src => Sys2Proof.Machine.execLdRR dst src s
  | .ldRIndHl r => Sys2Proof.Machine.execLdRIndHl r s
  | .ldIndHlR r => Sys2Proof.Machine.execLdIndHlR r s
  | .halt => Sys2Proof.Machine.execHalt s
  | .addR r => Sys2Proof.Machine.execAddR r s
  | .addIndHl => Sys2Proof.Machine.execAddIndHl s
  | .addN n => Sys2Proof.Machine.execAddN n s
  | .adcR r => Sys2Proof.Machine.execAdcR r s
  | .adcIndHl => Sys2Proof.Machine.execAdcIndHl s
  | .adcN n => Sys2Proof.Machine.execAdcN n s
  | .subR r => Sys2Proof.Machine.execSubR r s
  | .subIndHl => Sys2Proof.Machine.execSubIndHl s
  | .subN n => Sys2Proof.Machine.execSubN n s
  | .sbcR r => Sys2Proof.Machine.execSbcR r s
  | .sbcIndHl => Sys2Proof.Machine.execSbcIndHl s
  | .sbcN n => Sys2Proof.Machine.execSbcN n s
  | .andR r => Sys2Proof.Machine.execAndR r s
  | .andIndHl => Sys2Proof.Machine.execAndIndHl s
  | .andN n => Sys2Proof.Machine.execAndN n s
  | .xorR r => Sys2Proof.Machine.execXorR r s
  | .xorIndHl => Sys2Proof.Machine.execXorIndHl s
  | .xorN n => Sys2Proof.Machine.execXorN n s
  | .orR r => Sys2Proof.Machine.execOrR r s
  | .orIndHl => Sys2Proof.Machine.execOrIndHl s
  | .orN n => Sys2Proof.Machine.execOrN n s
  | .cpR r => Sys2Proof.Machine.execCpR r s
  | .cpIndHl => Sys2Proof.Machine.execCpIndHl s
  | .cpN n => Sys2Proof.Machine.execCpN n s
  | .retCc cc => Sys2Proof.Machine.execRetCc cc s
  | .popRp q => Sys2Proof.Machine.execPopRp q s
  | .ret => Sys2Proof.Machine.execRet s
  | .exx => Sys2Proof.Machine.execExx s
  | .jpIndHl => Sys2Proof.Machine.execJpIndHl s
  | .ldSpHl => Sys2Proof.Machine.execLdSpHl s
  | .jpCcNn cc nn => Sys2Proof.Machine.execJpCcNn cc nn s
  | .jpNn nn => Sys2Proof.Machine.execJpNn nn s
  | .cbPrefix => Sys2Proof.Machine.execCbPrefix s
  | .outIndNA n => Sys2Proof.Machine.execOutIndNA n s
  | .inAIndN n => Sys2Proof.Machine.execInAIndN n s
  | .exIndSpHl => Sys2Proof.Machine.execExIndSpHl s
  | .exDeHl => Sys2Proof.Machine.execExDeHl s
  | .di => Sys2Proof.Machine.execDi s
  | .ei => Sys2Proof.Machine.execEi s
  | .callCcNn cc nn => Sys2Proof.Machine.execCallCcNn cc nn s
  | .pushRp q => Sys2Proof.Machine.execPushRp q s
  | .callNn nn => Sys2Proof.Machine.execCallNn nn s
  | .ddPrefix => Sys2Proof.Machine.execDdPrefix s
  | .edPrefix => Sys2Proof.Machine.execEdPrefix s
  | .fdPrefix => Sys2Proof.Machine.execFdPrefix s
  | .rst y => Sys2Proof.Machine.execRst y s
  -- context IX or IY
  | .addXRp x p => Sys2Proof.Machine.execAddXRp x p s
  | .ldXNn x nn => Sys2Proof.Machine.execLdXNn x nn s
  | .ldIndNnX x nn => Sys2Proof.Machine.execLdIndNnX x nn s
  | .ldXIndNn x nn => Sys2Proof.Machine.execLdXIndNn x nn s
  | .incX x => Sys2Proof.Machine.execIncX x s
  | .decX x => Sys2Proof.Machine.execDecX x s
  | .incXHalf x q => Sys2Proof.Machine.execIncXHalf x q s
  | .decXHalf x q => Sys2Proof.Machine.execDecXHalf x q s
  | .ldXHalfN x q n => Sys2Proof.Machine.execLdXHalfN x q n s
  | .incIdx x d => Sys2Proof.Machine.execIncIdx x d s
  | .decIdx x d => Sys2Proof.Machine.execDecIdx x d s
  | .ldIdxN x d n => Sys2Proof.Machine.execLdIdxN x d n s
  | .ldRRHalves x dst src => Sys2Proof.Machine.execLdRRHalves x dst src s
  | .ldRIdx x r d => Sys2Proof.Machine.execLdRIdx x r d s
  | .ldIdxR x d r => Sys2Proof.Machine.execLdIdxR x d r s
  | .addXHalf x q => Sys2Proof.Machine.execAddXHalf x q s
  | .addIdx x d => Sys2Proof.Machine.execAddIdx x d s
  | .adcXHalf x q => Sys2Proof.Machine.execAdcXHalf x q s
  | .adcIdx x d => Sys2Proof.Machine.execAdcIdx x d s
  | .subXHalf x q => Sys2Proof.Machine.execSubXHalf x q s
  | .subIdx x d => Sys2Proof.Machine.execSubIdx x d s
  | .sbcXHalf x q => Sys2Proof.Machine.execSbcXHalf x q s
  | .sbcIdx x d => Sys2Proof.Machine.execSbcIdx x d s
  | .andXHalf x q => Sys2Proof.Machine.execAndXHalf x q s
  | .andIdx x d => Sys2Proof.Machine.execAndIdx x d s
  | .xorXHalf x q => Sys2Proof.Machine.execXorXHalf x q s
  | .xorIdx x d => Sys2Proof.Machine.execXorIdx x d s
  | .orXHalf x q => Sys2Proof.Machine.execOrXHalf x q s
  | .orIdx x d => Sys2Proof.Machine.execOrIdx x d s
  | .cpXHalf x q => Sys2Proof.Machine.execCpXHalf x q s
  | .cpIdx x d => Sys2Proof.Machine.execCpIdx x d s
  | .popX x => Sys2Proof.Machine.execPopX x s
  | .exIndSpX x => Sys2Proof.Machine.execExIndSpX x s
  | .pushX x => Sys2Proof.Machine.execPushX x s
  | .jpX x => Sys2Proof.Machine.execJpX x s
  | .ldSpX x => Sys2Proof.Machine.execLdSpX x s
  | .cbPrefixX x => Sys2Proof.Machine.execCbPrefixX x s
  | .ddPrefixX x => Sys2Proof.Machine.execDdPrefixX x s
  | .edPrefixX x => Sys2Proof.Machine.execEdPrefixX x s
  | .fdPrefixX x => Sys2Proof.Machine.execFdPrefixX x s
  | .anyOther x j => Sys2Proof.Machine.execAnyOther x j s
  -- context CB
  | .rlcR r => Sys2Proof.Machine.execRlcR r s
  | .rlcIndHl => Sys2Proof.Machine.execRlcIndHl s
  | .rrcR r => Sys2Proof.Machine.execRrcR r s
  | .rrcIndHl => Sys2Proof.Machine.execRrcIndHl s
  | .rlR r => Sys2Proof.Machine.execRlR r s
  | .rlIndHl => Sys2Proof.Machine.execRlIndHl s
  | .rrR r => Sys2Proof.Machine.execRrR r s
  | .rrIndHl => Sys2Proof.Machine.execRrIndHl s
  | .slaR r => Sys2Proof.Machine.execSlaR r s
  | .slaIndHl => Sys2Proof.Machine.execSlaIndHl s
  | .sraR r => Sys2Proof.Machine.execSraR r s
  | .sraIndHl => Sys2Proof.Machine.execSraIndHl s
  | .sllR r => Sys2Proof.Machine.execSllR r s
  | .sllIndHl => Sys2Proof.Machine.execSllIndHl s
  | .srlR r => Sys2Proof.Machine.execSrlR r s
  | .srlIndHl => Sys2Proof.Machine.execSrlIndHl s
  | .bitR b r => Sys2Proof.Machine.execBitR b r s
  | .bitIndHl b => Sys2Proof.Machine.execBitIndHl b s
  | .resR b r => Sys2Proof.Machine.execResR b r s
  | .resIndHl b => Sys2Proof.Machine.execResIndHl b s
  | .setR b r => Sys2Proof.Machine.execSetR b r s
  | .setIndHl b => Sys2Proof.Machine.execSetIndHl b s
  -- context IXCB or IYCB
  | .rlcIdx x d => Sys2Proof.Machine.execRlcIdx x d s
  | .rlcIdxR x d r => Sys2Proof.Machine.execRlcIdxR x d r s
  | .rrcIdx x d => Sys2Proof.Machine.execRrcIdx x d s
  | .rrcIdxR x d r => Sys2Proof.Machine.execRrcIdxR x d r s
  | .rlIdx x d => Sys2Proof.Machine.execRlIdx x d s
  | .rlIdxR x d r => Sys2Proof.Machine.execRlIdxR x d r s
  | .rrIdx x d => Sys2Proof.Machine.execRrIdx x d s
  | .rrIdxR x d r => Sys2Proof.Machine.execRrIdxR x d r s
  | .slaIdx x d => Sys2Proof.Machine.execSlaIdx x d s
  | .slaIdxR x d r => Sys2Proof.Machine.execSlaIdxR x d r s
  | .sraIdx x d => Sys2Proof.Machine.execSraIdx x d s
  | .sraIdxR x d r => Sys2Proof.Machine.execSraIdxR x d r s
  | .sllIdx x d => Sys2Proof.Machine.execSllIdx x d s
  | .sllIdxR x d r => Sys2Proof.Machine.execSllIdxR x d r s
  | .srlIdx x d => Sys2Proof.Machine.execSrlIdx x d s
  | .srlIdxR x d r => Sys2Proof.Machine.execSrlIdxR x d r s
  | .bitIdx x d b z => Sys2Proof.Machine.execBitIdx x d b z s
  | .resIdx x d b => Sys2Proof.Machine.execResIdx x d b s
  | .resIdxR x d b r => Sys2Proof.Machine.execResIdxR x d b r s
  | .setIdx x d b => Sys2Proof.Machine.execSetIdx x d b s
  | .setIdxR x d b r => Sys2Proof.Machine.execSetIdxR x d b r s
  -- context ED
  | .inRIndC r => Sys2Proof.Machine.execInRIndC r s
  | .inIndC => Sys2Proof.Machine.execInIndC s
  | .outIndCR r => Sys2Proof.Machine.execOutIndCR r s
  | .outIndC0 => Sys2Proof.Machine.execOutIndC0 s
  | .sbcHlRp p => Sys2Proof.Machine.execSbcHlRp p s
  | .adcHlRp p => Sys2Proof.Machine.execAdcHlRp p s
  | .ldIndNnRp p nn => Sys2Proof.Machine.execLdIndNnRp p nn s
  | .ldRpIndNn p nn => Sys2Proof.Machine.execLdRpIndNn p nn s
  | .neg y => Sys2Proof.Machine.execNeg y s
  | .retn y => Sys2Proof.Machine.execRetn y s
  | .reti => Sys2Proof.Machine.execReti s
  | .im0 y => Sys2Proof.Machine.execIm0 y s
  | .im1 y => Sys2Proof.Machine.execIm1 y s
  | .im2 y => Sys2Proof.Machine.execIm2 y s
  | .ldIA => Sys2Proof.Machine.execLdIA s
  | .ldRegRA => Sys2Proof.Machine.execLdRegRA s
  | .ldAI => Sys2Proof.Machine.execLdAI s
  | .ldARegR => Sys2Proof.Machine.execLdARegR s
  | .rrd => Sys2Proof.Machine.execRrd s
  | .rld => Sys2Proof.Machine.execRld s
  | .ldi => Sys2Proof.Machine.execLdi s
  | .ldd => Sys2Proof.Machine.execLdd s
  | .ldir => Sys2Proof.Machine.execLdir s
  | .lddr => Sys2Proof.Machine.execLddr s
  | .cpi => Sys2Proof.Machine.execCpi s
  | .cpd => Sys2Proof.Machine.execCpd s
  | .cpir => Sys2Proof.Machine.execCpir s
  | .cpdr => Sys2Proof.Machine.execCpdr s
  | .ini => Sys2Proof.Machine.execIni s
  | .ind => Sys2Proof.Machine.execInd s
  | .inir => Sys2Proof.Machine.execInir s
  | .indr => Sys2Proof.Machine.execIndr s
  | .outi => Sys2Proof.Machine.execOuti s
  | .outd => Sys2Proof.Machine.execOutd s
  | .otir => Sys2Proof.Machine.execOtir s
  | .otdr => Sys2Proof.Machine.execOtdr s
  | .nopEd op => Sys2Proof.Machine.execNopEd op s

end Sys2Proof.Machine
end

