-- ==== Sys2Proof/Machine/Cycle.lean ====
section
/-! DEFINITION. The step algorithm (60_exceptions.md R611): reset, NMI, maskable interrupt, halted step, or the fetch and
execution of a prefix byte or an opcode, in this order (R627); the contention of its accesses (20_memory.md R89); and a collaborator
that fails (R601). -/

namespace Sys2Proof.Machine

open Sys2Proof

/-! ### Which step it is -/

/-- The kinds of step (R610); a prefix step and an instruction step are one kind here. -/
inductive StepKind
  | reset | nmiAck | intAck | halted | instruction
  deriving DecidableEq, Repr

/-- Is the maskable interrupt accepted at this boundary (R622)? -/
def State.acceptsInt (s : State) : Bool := s.intLine && s.iff1 && !s.blocked

/-- The kind of the next step (R611, R627). -/
def State.stepKind (s : State) : StepKind :=
  if s.resetPending then .reset
  else if s.boundary && s.nmiPending then .nmiAck
  else if s.boundary && s.acceptsInt then .intAck
  else if s.boundary && s.halted then .halted
  else .instruction

/-! ### What it does -/

/-- The state in which a decoded instruction of `n` bytes is executed: the fetch, and for a non-prefix opcode what R119 adds. -/
def State.entering (s : State) (i : Instr) (n : Nat) : State :=
  if i.isPrefixStep then s.fetched n else (s.fetched n).opcodeStarted

/-- The instruction at the PC in the current context, with its length (R610, R611). -/
def State.decoded (s : State) : Except DecodeError (Instr × Nat) :=
  match decodeIn s.context s.fetchBytes with
  | .ok (i, rest) => .ok (i, s.fetchBytes.length - rest.length)
  | .error e => .error e

/-- The prefix step or instruction step. -/
def State.instrStep (s : State) : Result :=
  match s.decoded with
  | .ok (i, n) => exec i (s.entering i n)
  | .error .truncated => .refused .truncated

/-- The work of the next step, the tact counter not yet narrowed. -/
def State.work (s : State) : Result :=
  match s.stepKind with
  | .reset => .next s.resetSignal
  | .nmiAck => .next s.nmiAck
  | .intAck => .next s.intAck
  | .halted => .next s.haltedStep
  | .instruction => s.instrStep

/-! ### Its accesses, and what the environment makes of them -/

/-- The calls of collaborators that the next step makes, in order (20_memory.md R98). The reset step and the halted step make none
(R613, R615). -/
def State.stepAccesses (s : State) : List Access :=
  match s.stepKind with
  | .reset => []
  | .nmiAck => s.pushAccesses
  | .intAck => s.intAccesses
  | .halted => []
  | .instruction =>
    match s.decoded with
    | .ok (i, n) => s.fetchAccesses n ++ s.dataAccesses i
    | .error .truncated => []

/-- The failure that hits one of the accesses, if any (R601). -/
def State.failing (s : State) (accesses : List Access) : Option Failure :=
  match s.failure with
  | some f => if f.access < accesses.length then some f else none
  | none => none

/-- The 4 tacts of each M1 fetch among the accesses (R611). -/
def fetchTacts (accesses : List Access) : Nat :=
  4 * accesses.countP fun x => match x with
    | .fetch _ => true
    | .operand _ | .read _ | .write _ | .portRead _ | .portWrite _ | .busVector => false

/-- The tact counter that an abandoned step leaves (R601: "tacts already consumed left in place"): the contention up to and with the
failing access, which it precedes (R89), the M1 fetch if it is complete, and what else the environment says (log entry 6); the sum is
truncated to the width of the counter (R54; log entry 7). -/
def State.tactsAtFailure (s : State) (accesses : List Access) (f : Failure) : Nat :=
  s.narrow ((s.contended (accesses.take (f.access + 1))).tacts + fetchTacts (accesses.take f.access) + f.tacts)

/-- A result whose tact counter has the width `TACT_WIDTH` (10_state.md R54). -/
def narrowTacts : Result → Result
  | .next t => .next { t with tacts := t.narrow t.tacts }
  | .fault f => .fault f
  | .refused r => .refused r

/-- One call of the step function (R611). Contention changes the tacts alone (20_memory.md R89), so that all of it is added before the
work is done. -/
def State.cycle (s : State) : Result :=
  match s.failing s.stepAccesses with
  | some f => .fault (.deviceFailure (s.tactsAtFailure s.stepAccesses f))
  | none => narrowTacts (s.contended s.stepAccesses).work

end Sys2Proof.Machine
end

