-- ==== Sys2Proof/Machine/Step.lean ====
section
/-! DEFINITION. The step function, and the placing of a table word for the host. -/

namespace Sys2Proof.Machine

open Sys2Proof

/-- `ExecuteCpuCycle()` (00_scope.md R16, 60_exceptions.md R610): one reset step, acknowledgment, halted step, prefix step or
instruction step. -/
def step (s : State) : Host.Outcome State Fault Refusal := s.cycle

/-- The state with a table word's four bytes at the PC, where the next step fetches (the longest instruction has four bytes,
30_encoding.md R111). The fetch needs nothing else: in the state after reset the context is None and nothing is pending
(70_reset_and_hazards.md R704; log entry 9). -/
def State.withFetchWord (s : State) (nbits w : Nat) : State := s.placeBytes s.pc (tableBytes nbits w)

end Sys2Proof.Machine
end

