-- ==== Sys2Proof/Machine/Environment.lean ====
section
/-! DEFINITION. What the host and the environment may do between two steps (60_exceptions.md R640 to R644).

These are no steps of the machine: `step` never calls them. -/

namespace Sys2Proof.Machine

open Sys2Proof

/-- A 16-bit register that the host may load (R642): the general ones by their `rp2` names, the rest by their own. -/
inductive HostRegister
  | main (q : StackPair)
  | shadow (q : StackPair)
  | index (x : Index)
  | sp
  | pc
  | wz
  | ir
  deriving DecidableEq, Repr

/-- One interaction of the table of R644, `step()` and power-up apart, with the draws of R9 and the pagings of the memory collaborator. -/
inductive HostAction
  /-- `RequestReset()` (R641). -/
  | requestReset
  /-- `RequestNmi()` (R641). -/
  | requestNmi
  /-- `SetIntLine(b)` (R641). -/
  | setIntLine (b : Bool)
  /-- `BlockInterrupt()` (R640). -/
  | blockInterrupt
  /-- `SetInterruptMode(m)` (R640). -/
  | setInterruptMode (m : Nat)
  /-- `SetTacts(n)` (R640). -/
  | setTacts (n : Nat)
  /-- The choice of the next `busVector` draw (R641). DESIGN CHOICE: what a second choice before any acknowledgment does is left open;
  the model queues it behind the first, and does not replace the first; safe (log entry 18). -/
  | drawBusVector (v : Byte)
  /-- The choice of the next `portIn` draw (R9), queued behind those chosen before (log entry 18). -/
  | drawPortIn (v : Byte)
  /-- The choice of the next `contention` draw of an access (R9), queued behind those chosen for it before (log entry 18). -/
  | drawContention (x : Access) (n : Nat)
  /-- Which call of a collaborator fails from now on, if any (R601). -/
  | setFailure (f : Option Failure)
  /-- The memory collaborator pages between two steps, as on a port write (R642, 20_memory.md R92). -/
  | page (windows : List Window)
  /-- A memory load (R642). -/
  | loadByte (a : Word) (v : Byte)
  /-- A register load (R642). -/
  | loadRegister (g : HostRegister) (v : Word)
  deriving DecidableEq, Repr

/-- The mode that `SetInterruptMode(m)` names, if any (R640). -/
def intModeOf : Nat → Option IntMode
  | 0 => some .im0
  | 1 => some .im1
  | 2 => some .im2
  | _ => none

/-- A register load: the named register alone changes. -/
def State.loadRegister (s : State) (g : HostRegister) (v : Word) : State :=
  match g with
  | .main q => s.setStackPair q v
  | .shadow .bc => { s with bcShadow := v }
  | .shadow .de => { s with deShadow := v }
  | .shadow .hl => { s with hlShadow := v }
  | .shadow .af => { s with afShadow := v }
  | .index x => s.setIndex x v
  | .sp => { s with sp := v }
  | .pc => { s with pc := v }
  | .wz => { s with wz := v }
  | .ir => { s with i := hi v, r := lo v }

/-- The effect of one interaction: "each mutates exactly the named piece of state" (R640). -/
def State.hostAct (s : State) (h : HostAction) : Host.Outcome State Fault Refusal :=
  match h with
  | .requestReset => .next { s with resetPending := true }
  | .requestNmi => .next { s with nmiPending := true }
  | .setIntLine b => .next { s with intLine := b }
  | .blockInterrupt => .next { s with blocked := true }
  | .setInterruptMode m =>
    match intModeOf m with
    | some mode => .next { s with im := mode }
    | none => .refused .badInterruptMode
  | .setTacts n => .next { s with tacts := s.narrow n }
  | .drawBusVector v => .next { s with busVector := s.busVector ++ [v] }
  | .drawPortIn v => .next { s with portIn := s.portIn ++ [v] }
  | .drawContention x n => .next { s with contention := s.contention ++ [(x, n)] }
  | .setFailure f => .next { s with failure := f }
  | .page windows => .next { s with mem := { s.mem with windows := windows } }
  | .loadByte a v => .next (s.load8 a v)
  | .loadRegister g v => .next (s.loadRegister g v)

end Sys2Proof.Machine
end

