-- ==== Sys2Proof/Safety.lean ====
section
/-! DEFINITION. The terms that claims use: a legal state, the end of a run, a state that fetches; the opcode codes as the spec's
tables number them; and the operand forms that whole families of instructions share, with what each form reads and writes. -/

namespace Sys2Proof.Machine

open Sys2Proof

/-! ### States -/

/-- A state that the CORE can be in: memory is in its canonical form, the tact counter fits its width (10_state.md R54), the pair
(Extended, IX or IY) does not occur (30_encoding.md R110), and HALT holds at a boundary only (60_exceptions.md R611). -/
def State.legal (s : State) : Bool :=
  s.mem.wf && s.narrow s.tacts == s.tacts && (s.prefixMode != .extended || s.indexMode == none) && (!s.halted || s.boundary)

/-- `HaltedAtBoundary(s)` (60_exceptions.md R643). It does not say that the chip stops. -/
def State.haltedAtBoundary (s : State) : Bool := s.halted && s.boundary

/-- Every collaborator that the next step calls answers (60_exceptions.md R601). -/
def State.answered (s : State) : Bool := s.failing s.stepAccesses == none

/-- Nothing takes the step away from the instruction at the PC: no reset pending, no collaborator failing and, at a boundary,
no NMI, no accepted maskable interrupt and no HALT (60_exceptions.md R611). -/
def State.fetches (s : State) : Bool :=
  !s.resetPending && s.answered && (!s.boundary || (!s.nmiPending && !s.acceptsInt && !s.halted))

/-! ### What a list of writes leaves (20_memory.md R83) -/

/-- Does a write at `a` change the byte at `b`? Where `a` can be written and both name one cell. -/
def State.reaches (s : State) (a b : Word) : Bool := s.mem.writable a && s.mem.cell a == s.mem.cell b

/-- The last byte written to an address that `hits`, else `old`. -/
def lastWritten (hits : Word → Bool) (old : Byte) (writes : List (Word × Byte)) : Byte :=
  writes.foldl (fun v w => if hits w.1 then w.2 else v) old

/-- The memory of `t` is that of `s` after the writes, in their order, and after nothing else: whatever the collaborator (its form is
the model's, log entry 2, DESIGN CHOICE). Under `FlatRam` every byte of `t` reads as the last write at its address left it, else as in
`s`. -/
structure State.Stores (s t : State) (writes : List (Word × Byte)) : Prop where
  /-- The accesses of the collaborator. -/
  memory : t.mem = s.mem.writeAll writes
  /-- `FlatRam`: `M[a] <- v`. -/
  flat : s.mem.isFlat = true → ∀ b : Word, t.read8 b = lastWritten (fun a => a == b) (s.read8 b) writes

/-- The addresses that an instruction executed in state `s` writes, in order. -/
def State.writtenBy (s : State) (i : Instr) : List Word :=
  (s.dataAccesses i).filterMap fun x => match x with
    | .write a => some a
    | .fetch _ | .operand _ | .read _ | .portRead _ | .portWrite _ | .busVector => none

/-- The ports that it reads. -/
def State.portsReadBy (s : State) (i : Instr) : List Word :=
  (s.dataAccesses i).filterMap fun x => match x with
    | .portRead p => some p
    | .fetch _ | .operand _ | .read _ | .write _ | .portWrite _ | .busVector => none

/-- The ports that it writes. -/
def State.portsWrittenBy (s : State) (i : Instr) : List Word :=
  (s.dataAccesses i).filterMap fun x => match x with
    | .portWrite p => some p
    | .fetch _ | .operand _ | .read _ | .write _ | .portRead _ | .busVector => none

/-! ### Reading bytes (30_encoding.md) -/

/-- The bytes, read in context `c`, stand for `i`, whatever comes after them. -/
def Reads (c : Context) (bytes : List Byte) (i : Instr) : Prop :=
  ∀ rest : List Byte, decodeIn c (bytes ++ rest) = .ok (i, rest)

/-- The byte whose fields are `base + y * 8 + z` (R127). -/
def opcode (base y z : Nat) : Byte := BitVec.ofNat 8 (base + y * 8 + z)

/-- `reg8` (R120): 000 B, 001 C, 010 D, 011 E, 100 H, 101 L, 111 A. -/
def regNumber : Reg8 → Nat
  | .b => 0 | .c => 1 | .d => 2 | .e => 3 | .h => 4 | .l => 5 | .a => 7

/-- `rp` (R122): 00 BC, 01 DE, 10 HL, 11 SP. -/
def pairNumber : Pair → Nat
  | .bc => 0 | .de => 1 | .hl => 2 | .sp => 3

/-- `rp2` (R123): 00 BC, 01 DE, 10 HL, 11 AF. -/
def stackPairNumber : StackPair → Nat
  | .bc => 0 | .de => 1 | .hl => 2 | .af => 3

/-- `cond` (R124): 0 NZ, 1 Z, 2 NC, 3 C, 4 PO, 5 PE, 6 P, 7 M. -/
def condNumber : Cond → Nat
  | .nz => 0 | .z => 1 | .nc => 2 | .c => 3 | .po => 4 | .pe => 5 | .p => 6 | .m => 7

/-- The conditions of JR (R124): 0 NZ, 1 Z, 2 NC, 3 C. -/
def jrCondNumber : JrCond → Nat
  | .nz => 0 | .z => 1 | .nc => 2 | .c => 3

/-- An index half as a register code (R116): 100 the high half, 101 the low half. -/
def halfNumber : Half → Nat
  | .high => 4 | .low => 5

/-- Does the condition hold of these flags (R124)? -/
def condHolds (g : Flags) : Cond → Bool
  | .nz => !g.z | .z => g.z | .nc => !g.c | .c => g.c | .po => !g.pv | .pe => g.pv | .p => !g.s | .m => g.s

/-- Does the condition of a JR hold of these flags (R124)? -/
def jrCondHolds (g : Flags) : JrCond → Bool
  | .nz => !g.z | .z => g.z | .nc => !g.c | .c => g.c

/-! ### Flags -/

/-- `SZXY(v)` was written (00_scope.md R15). -/
def Flags.ShowsByte (g : Flags) (v : Byte) : Prop :=
  g.s = v.getLsbD 7 ∧ g.z = decide (v = 0) ∧ g.y = v.getLsbD 5 ∧ g.x = v.getLsbD 3

/-- `parity(v)` (R15): is the number of 1 bits even? -/
def evenOnes (v : Byte) : Bool := (List.range 8).countP (fun k => v.getLsbD k) % 2 == 0

/-- What `add8(a, v, c)` returns and writes (43_alu8.md R300). -/
structure Added (a v : Byte) (c : Bool) (res : Byte) (g : Flags) : Prop where
  /-- `res <- (a + v + c) mod 2^8`. -/
  result : res.toNat = (a.toNat + v.toNat + c.toNat) % 2 ^ 8
  /-- `SZXY(res)`. -/
  shows : g.ShowsByte res
  /-- `F.H <- ((a[3:0] + v[3:0] + c) > 0xF)`. -/
  half : g.h = decide (a.toNat % 16 + v.toNat % 16 + c.toNat > 0xF)
  /-- `F.PV <- (a[7] == v[7] and res[7] != a[7])`. -/
  sign : g.pv = decide (a.getLsbD 7 = v.getLsbD 7 ∧ res.getLsbD 7 ≠ a.getLsbD 7)
  /-- PV is signed overflow. -/
  overflow : g.pv = true ↔ a.toInt + v.toInt + c.toNat < -128 ∨ 127 < a.toInt + v.toInt + c.toNat
  /-- `F.N <- 0`. -/
  plus : g.n = false
  /-- `F.C <- (s > 0xFF)`. -/
  carry : g.c = decide (a.toNat + v.toNat + c.toNat > 0xFF)

/-- What `sub8(a, v, c)` returns and writes (43_alu8.md R301). -/
structure Subtracted (a v : Byte) (c : Bool) (res : Byte) (g : Flags) : Prop where
  /-- `res <- (a - v - c) mod 2^8`. -/
  result : (res.toNat : Int) = ((a.toNat : Int) - v.toNat - c.toNat) % 2 ^ 8
  /-- `SZXY(res)`. -/
  shows : g.ShowsByte res
  /-- `F.H <- ((a[3:0] - v[3:0] - c) < 0)`. -/
  half : g.h = decide (a.toNat % 16 < v.toNat % 16 + c.toNat)
  /-- `F.PV <- (a[7] != v[7] and res[7] != a[7])`. -/
  sign : g.pv = decide (a.getLsbD 7 ≠ v.getLsbD 7 ∧ res.getLsbD 7 ≠ a.getLsbD 7)
  /-- PV is signed overflow. -/
  overflow : g.pv = true ↔ a.toInt - v.toInt - c.toNat < -128 ∨ 127 < a.toInt - v.toInt - c.toNat
  /-- `F.N <- 1`. -/
  minus : g.n = true
  /-- `F.C <- (s < 0)`. -/
  borrow : g.c = decide (a.toNat < v.toNat + c.toNat)

/-! ### The eight ALU operations and their five operand forms (43_alu8.md R305) -/

/-- The eight operations. -/
inductive AluOp
  | add | adc | sub | sbc | and | xor | or | cp
  deriving DecidableEq, Repr

/-- The operation field `ooo` (30_encoding.md R125). -/
def AluOp.number : AluOp → Nat
  | .add => 0 | .adc => 1 | .sub => 2 | .sbc => 3 | .and => 4 | .xor => 5 | .or => 6 | .cp => 7

/-- The forms of the operand. -/
inductive AluForm
  | reg (r : Reg8)
  | indHl
  | imm (n : Byte)
  | half (x : Index) (q : Half)
  | idx (x : Index) (d : Byte)
  deriving DecidableEq, Repr

/-- The instruction of an operation and a form. -/
def aluInstr : AluOp → AluForm → Instr
  | .add, .reg r => .addR r
  | .add, .indHl => .addIndHl
  | .add, .imm n => .addN n
  | .add, .half x q => .addXHalf x q
  | .add, .idx x d => .addIdx x d
  | .adc, .reg r => .adcR r
  | .adc, .indHl => .adcIndHl
  | .adc, .imm n => .adcN n
  | .adc, .half x q => .adcXHalf x q
  | .adc, .idx x d => .adcIdx x d
  | .sub, .reg r => .subR r
  | .sub, .indHl => .subIndHl
  | .sub, .imm n => .subN n
  | .sub, .half x q => .subXHalf x q
  | .sub, .idx x d => .subIdx x d
  | .sbc, .reg r => .sbcR r
  | .sbc, .indHl => .sbcIndHl
  | .sbc, .imm n => .sbcN n
  | .sbc, .half x q => .sbcXHalf x q
  | .sbc, .idx x d => .sbcIdx x d
  | .and, .reg r => .andR r
  | .and, .indHl => .andIndHl
  | .and, .imm n => .andN n
  | .and, .half x q => .andXHalf x q
  | .and, .idx x d => .andIdx x d
  | .xor, .reg r => .xorR r
  | .xor, .indHl => .xorIndHl
  | .xor, .imm n => .xorN n
  | .xor, .half x q => .xorXHalf x q
  | .xor, .idx x d => .xorIdx x d
  | .or, .reg r => .orR r
  | .or, .indHl => .orIndHl
  | .or, .imm n => .orN n
  | .or, .half x q => .orXHalf x q
  | .or, .idx x d => .orIdx x d
  | .cp, .reg r => .cpR r
  | .cp, .indHl => .cpIndHl
  | .cp, .imm n => .cpN n
  | .cp, .half x q => .cpXHalf x q
  | .cp, .idx x d => .cpIdx x d

/-- The context that the form is decoded in. -/
def AluForm.context : AluForm → Context
  | .reg _ | .indHl | .imm _ => .plain
  | .half x _ | .idx x _ => .index x

/-- The bytes of the form with operation field `o`. -/
def AluForm.bytes (o : Nat) : AluForm → List Byte
  | .reg r => [opcode 0x80 o (regNumber r)]
  | .indHl => [opcode 0x80 o 6]
  | .imm n => [opcode 0xC0 o 6, n]
  | .half _ q => [opcode 0x80 o (halfNumber q)]
  | .idx _ d => [opcode 0x80 o 6, d]

/-- The operand `v`. -/
def AluForm.operand (s : State) : AluForm → Byte
  | .reg r => s.reg8 r
  | .indHl => s.read8 s.hl
  | .imm n => n
  | .half x q => s.indexHalf x q
  | .idx x d => s.read8 (s.ea x d)

/-- WZ after the form: an indexed form latches its address. -/
def AluForm.wz (s : State) : AluForm → Word
  | .idx x d => s.ea x d
  | .reg _ | .indHl | .imm _ | .half _ _ => s.wz

/-- The tacts of the form less those of its fetches: 4 of 4, 7 or 7; 8 of 8 or 19 with the prefix byte (R305). -/
def AluForm.tacts : AluForm → Nat
  | .reg _ => 4 - 4
  | .indHl | .imm _ => 7 - 4
  | .half _ _ => 8 - 8
  | .idx _ _ => 19 - 8

/-! ### INC and DEC of a byte (43_alu8.md R314 to R319) -/

/-- Where the byte is. -/
inductive StepForm
  | reg (r : Reg8)
  | half (x : Index) (q : Half)
  | indHl
  | idx (x : Index) (d : Byte)
  deriving DecidableEq, Repr

/-- INC of the form. -/
def incInstr : StepForm → Instr
  | .reg r => .incR r
  | .half x q => .incXHalf x q
  | .indHl => .incIndHl
  | .idx x d => .incIdx x d

/-- DEC of the form. -/
def decInstr : StepForm → Instr
  | .reg r => .decR r
  | .half x q => .decXHalf x q
  | .indHl => .decIndHl
  | .idx x d => .decIdx x d

/-- The context that the form is decoded in. -/
def StepForm.context : StepForm → Context
  | .reg _ | .indHl => .plain
  | .half x _ | .idx x _ => .index x

/-- The bytes of the form; `z` is 4 for INC and 5 for DEC. -/
def StepForm.bytes (z : Nat) : StepForm → List Byte
  | .reg r => [opcode 0x00 (regNumber r) z]
  | .half _ q => [opcode 0x00 (halfNumber q) z]
  | .indHl => [opcode 0x00 6 z]
  | .idx _ d => [opcode 0x00 6 z, d]

/-- The byte before. -/
def StepForm.operand (s : State) : StepForm → Byte
  | .reg r => s.reg8 r
  | .half x q => s.indexHalf x q
  | .indHl => s.read8 s.hl
  | .idx x d => s.read8 (s.ea x d)

/-- The register written, if any. -/
def StepForm.register : StepForm → Option Reg8
  | .reg r => some r
  | .half _ _ | .indHl | .idx _ _ => none

/-- The index half written, if any. -/
def StepForm.indexHalf : StepForm → Option (Index × Half)
  | .half x q => some (x, q)
  | .reg _ | .indHl | .idx _ _ => none

/-- The address stored to, if any. -/
def StepForm.address (s : State) : StepForm → Option Word
  | .indHl => some s.hl
  | .idx x d => some (s.ea x d)
  | .reg _ | .half _ _ => none

/-- WZ after the form. -/
def StepForm.wz (s : State) : StepForm → Word
  | .idx x d => s.ea x d
  | .reg _ | .half _ _ | .indHl => s.wz

/-- The tacts of the form less those of its fetches. -/
def StepForm.tacts : StepForm → Nat
  | .reg _ => 4 - 4
  | .half _ _ => 8 - 8
  | .indHl => 11 - 4
  | .idx _ _ => 23 - 8

/-! ### The forms of the CB instructions (45_rotate_shift.md R374) -/

/-- Where the byte is; `copy` also writes the result to a register. -/
inductive CbForm
  | reg (r : Reg8)
  | indHl
  | idx (x : Index) (d : Byte)
  | copy (x : Index) (d : Byte) (r : Reg8)
  deriving DecidableEq, Repr

/-- The context that the form is decoded in. -/
def CbForm.context : CbForm → Context
  | .reg _ | .indHl => .cb
  | .idx x _ | .copy x _ _ => .indexCb x

/-- The bytes of the form: the displacement, where there is one, comes before the opcode (30_encoding.md R118). -/
def CbForm.bytes (base y : Nat) : CbForm → List Byte
  | .reg r => [opcode base y (regNumber r)]
  | .indHl => [opcode base y 6]
  | .idx _ d => [d, opcode base y 6]
  | .copy _ d r => [d, opcode base y (regNumber r)]

/-- The byte before. -/
def CbForm.operand (s : State) : CbForm → Byte
  | .reg r => s.reg8 r
  | .indHl => s.read8 s.hl
  | .idx x d | .copy x d _ => s.read8 (s.ea x d)

/-- The register written, if any. -/
def CbForm.register : CbForm → Option Reg8
  | .reg r | .copy _ _ r => some r
  | .indHl | .idx _ _ => none

/-- The address stored to, if any. -/
def CbForm.address (s : State) : CbForm → Option Word
  | .reg _ => none
  | .indHl => some s.hl
  | .idx x d | .copy x d _ => some (s.ea x d)

/-- WZ after the form. -/
def CbForm.wz (s : State) : CbForm → Word
  | .reg _ | .indHl => s.wz
  | .idx x d | .copy x d _ => s.ea x d

/-- The tacts of the form less those of its fetches: 8, 15 or 23 in all. -/
def CbForm.tacts : CbForm → Nat
  | .reg _ => 8 - 8
  | .indHl => 15 - 8
  | .idx _ _ | .copy _ _ _ => 23 - 8

/-- The eight rotates and shifts. -/
inductive RotOp
  | rlc | rrc | rl | rr | sla | sra | sll | srl
  deriving DecidableEq, Repr

/-- The operation field `ooo` (30_encoding.md R126). -/
def RotOp.number : RotOp → Nat
  | .rlc => 0 | .rrc => 1 | .rl => 2 | .rr => 3 | .sla => 4 | .sra => 5 | .sll => 6 | .srl => 7

/-- `cout` (R375 to R382): v[7] of a left move, v[0] of a right one. -/
def RotOp.carry (v : Byte) : RotOp → Bool
  | .rlc | .rl | .sla | .sll => v.getLsbD 7
  | .rrc | .rr | .sra | .srl => v.getLsbD 0

/-- `res` as a number (R375 to R382). -/
def RotOp.result (v : Byte) (cin : Bool) : RotOp → Nat
  | .rlc => v.toNat * 2 % 2 ^ 8 + (v.getLsbD 7).toNat
  | .rrc => v.toNat / 2 + (v.getLsbD 0).toNat * 0x80
  | .rl => v.toNat * 2 % 2 ^ 8 + cin.toNat
  | .rr => v.toNat / 2 + cin.toNat * 0x80
  | .sla => v.toNat * 2 % 2 ^ 8
  | .sra => v.toNat / 2 + (v.getLsbD 7).toNat * 0x80
  | .sll => v.toNat * 2 % 2 ^ 8 + 1
  | .srl => v.toNat / 2

/-- The instruction of a rotate or shift and a form. -/
def rotInstr : RotOp → CbForm → Instr
  | .rlc, .reg r => .rlcR r
  | .rlc, .indHl => .rlcIndHl
  | .rlc, .idx x d => .rlcIdx x d
  | .rlc, .copy x d r => .rlcIdxR x d r
  | .rrc, .reg r => .rrcR r
  | .rrc, .indHl => .rrcIndHl
  | .rrc, .idx x d => .rrcIdx x d
  | .rrc, .copy x d r => .rrcIdxR x d r
  | .rl, .reg r => .rlR r
  | .rl, .indHl => .rlIndHl
  | .rl, .idx x d => .rlIdx x d
  | .rl, .copy x d r => .rlIdxR x d r
  | .rr, .reg r => .rrR r
  | .rr, .indHl => .rrIndHl
  | .rr, .idx x d => .rrIdx x d
  | .rr, .copy x d r => .rrIdxR x d r
  | .sla, .reg r => .slaR r
  | .sla, .indHl => .slaIndHl
  | .sla, .idx x d => .slaIdx x d
  | .sla, .copy x d r => .slaIdxR x d r
  | .sra, .reg r => .sraR r
  | .sra, .indHl => .sraIndHl
  | .sra, .idx x d => .sraIdx x d
  | .sra, .copy x d r => .sraIdxR x d r
  | .sll, .reg r => .sllR r
  | .sll, .indHl => .sllIndHl
  | .sll, .idx x d => .sllIdx x d
  | .sll, .copy x d r => .sllIdxR x d r
  | .srl, .reg r => .srlR r
  | .srl, .indHl => .srlIndHl
  | .srl, .idx x d => .srlIdx x d
  | .srl, .copy x d r => .srlIdxR x d r

/-- RES of the form (46_bit.md R403 to R405). -/
def resInstr (b : Oct) : CbForm → Instr
  | .reg r => .resR b r
  | .indHl => .resIndHl b
  | .idx x d => .resIdx x d b
  | .copy x d r => .resIdxR x d b r

/-- SET of the form (46_bit.md R406 to R408). -/
def setInstr (b : Oct) : CbForm → Instr
  | .reg r => .setR b r
  | .indHl => .setIndHl b
  | .idx x d => .setIdx x d b
  | .copy x d r => .setIdxR x d b r

end Sys2Proof.Machine
end

