-- ==== Sys2Proof/Certificates/Slice0/Obligations.lean ====
section
/-! DEFINITION. The statements for the provers.

`exec i s` is given the state after the step's own fetch (60_exceptions.md R611): in every statement about it the PC of `s` is the
address after the instruction, and `n - 4` or `n - 8` tacts are the form's total `n` less the 4 tacts of each of its M1 fetches
(70_reset_and_hazards.md R730). A right-hand side `{ s with f := t.f, … }` says that every field not named is unchanged; what the
named ones hold is said beside it. `s.Stores t writes` says that the memory collaborator has taken these writes, in this order, and no
other access that changes it; and, byte by byte under `FlatRam`, what memory holds then (20_memory.md R83). The form of a collaborator
that is not `FlatRam` is the model's (log entry 2, DESIGN CHOICE). -/

open Sys2Proof Sys2Proof.Machine

/-! ### Decoding -/

/-- What the encoder writes for a well-formed instruction, its own context reads back as that instruction, whatever bytes follow. -/
def Obligations.DecodeReadsWhatEncodeWrites : Prop :=
  ∀ i : Instr, i.wf = true → Reads i.context (encode i) i

/-- R602: in every context, any opcode byte with two bytes after it (the most that a row reads) is a well-formed instruction of that
context; and no step is refused. -/
def Obligations.EveryByteDecodesAndNoStepRefuses : Prop :=
  (∀ (c : Context) (b₀ b₁ b₂ : Byte) (rest : List Byte), ∃ (i : Instr) (more : List Byte),
    decodeIn c (b₀ :: b₁ :: b₂ :: rest) = .ok (i, more) ∧ i.wf = true ∧ i.context = c) ∧
  ∀ (s : State) (r : Refusal), step s ≠ .refused r

/-- R114 to R118: words of seven contexts, written out from the encodings of the spec. -/
def Obligations.WordsOfEachContextDecode : Prop :=
  decodeIn .plain [0x06, 0x80] = .ok (.ldRN .b 0x80, []) ∧
  decodeIn .plain [0xC3, 0x34, 0x12] = .ok (.jpNn 0x1234, []) ∧
  decodeIn .cb [0x7C] = .ok (.bitR .o7 .h, []) ∧
  decodeIn .ed [0xB0] = .ok (.ldir, []) ∧
  decodeIn (.index .ix) [0x36, 0x02, 0xAA] = .ok (.ldIdxN .ix 0x02 0xAA, []) ∧
  decodeIn (.index .iy) [0x66, 0x01] = .ok (.ldRIdx .iy .h 0x01, []) ∧
  decodeIn (.index .iy) [0xEB] = .ok (.anyOther .iy .exDeHl, []) ∧
  decodeIn (.indexCb .ix) [0x02, 0x00] = .ok (.rlcIdxR .ix 0x02 .b, []) ∧
  decodeIn (.indexCb .iy) [0xFE, 0x89] = .ok (.resIdxR .iy 0xFE .o1 .c, [])

/-! ### The step -/

/-- R611, R112, R118, R119, R730: where nothing takes the step away from the instruction at the PC, the step executes the instruction
that the bytes there stand for, in the state with the PC past it, the M1 fetch counted in R and in the tacts (not in IXCB and IYCB),
the contention of the step's accesses added, and, unless it is a prefix byte, the interrupt-blocked flag cleared and both modes None;
then the tact counter is narrowed to its width. The model's choices in it: contention is drawn from a list of draws keyed by access, all
of it before the effect (log entry 5, DESIGN CHOICE); three bytes are read at the PC, and the flag and the modes are written before the
effect, where R611 writes the modes after it (log entry 10, DEDUCED); the counter is narrowed at the end of the step (R11; log entry 7,
DEDUCED). -/
def Obligations.StepExecutesTheDecodedInstruction : Prop :=
  ∀ (s : State) (i : Instr) (rest : List Byte), s.fetches = true → decodeIn s.context s.fetchBytes = .ok (i, rest) →
    let c := s.contended (s.fetchAccesses (3 - rest.length) ++ s.dataAccesses i)
    step s = narrowTacts (exec i
      { s with
        pc := s.pc + BitVec.ofNat 16 (3 - rest.length)
        r := if s.prefixMode = .bit ∧ s.indexMode ≠ none then s.r else inc7 s.r
        tacts := c.tacts + (if s.prefixMode = .bit ∧ s.indexMode ≠ none then 0 else 4)
        contention := c.contention
        blocked := if i.isPrefixStep = true then s.blocked else false
        prefixMode := if i.isPrefixStep = true then s.prefixMode else .plain
        indexMode := if i.isPrefixStep = true then s.indexMode else none })

/-- R701, R613: the reset step, in every state. -/
def Obligations.ResetStepClearsExactlyItsRegisters : Prop :=
  ∀ s : State, s.resetPending = true →
    step s = .next
      { s with
        pc := 0, sp := 0, i := 0, r := 0, iff1 := false, iff2 := false, im := .im0, halted := false, blocked := false,
        prefixMode := .plain, indexMode := none, resetPending := false, nmiPending := false, tacts := 0 }

/-- R700, R70: the state at power-up, whatever the memory collaborator and the width of the tact counter (the parameters of R9). -/
def Obligations.PowerUpStateIsAllZero : Prop :=
  (∀ (m : MemoryCollaborator) (w : Option Nat),
    State.powerUp m w = { State.reset with mem := m, tactWidth := w } ∧ (State.powerUp m w).fetches = true) ∧
  State.reset.af = 0 ∧ State.reset.bc = 0 ∧ State.reset.de = 0 ∧ State.reset.hl = 0 ∧
  State.reset.afShadow = 0 ∧ State.reset.bcShadow = 0 ∧ State.reset.deShadow = 0 ∧ State.reset.hlShadow = 0 ∧
  State.reset.ix = 0 ∧ State.reset.iy = 0 ∧ State.reset.sp = 0 ∧ State.reset.pc = 0 ∧ State.reset.wz = 0 ∧
  State.reset.i = 0 ∧ State.reset.r = 0 ∧ State.reset.iff1 = false ∧ State.reset.iff2 = false ∧ State.reset.im = .im0 ∧
  State.reset.halted = false ∧ State.reset.blocked = false ∧ State.reset.prefixMode = .plain ∧ State.reset.indexMode = none ∧
  State.reset.resetPending = false ∧ State.reset.nmiPending = false ∧ State.reset.intLine = false ∧ State.reset.tacts = 0 ∧
  State.reset.context = .plain ∧ State.reset.fetches = true

/-- R621, R730: the NMI acknowledgment, taken at a boundary whatever IFF1, IFF2, IM, the blocked flag and HALT are. The model's choices
in it: the contention of the two writes is drawn from a list keyed by access (log entry 5, DESIGN CHOICE), the counter is narrowed at the
end (R11; log entry 7, DEDUCED), and IFF2 is kept, as R621 says and R628 does not (log entry 17, DESIGN
CHOICE). -/
def Obligations.NmiEntrySavesPcAndKeepsIff2 : Prop :=
  ∀ s : State, s.resetPending = false → s.boundary = true → s.nmiPending = true → s.answered = true →
    let c := s.contended [.write (s.sp - 1), .write (s.sp - 2)]
    ∃ t : State, step s = .next t ∧
      t = { s with
            nmiPending := false, halted := false, r := inc7 s.r, iff1 := false, sp := s.sp - 2, pc := 0x0066, wz := 0x0066
            tacts := s.narrow (c.tacts + 11), contention := c.contention, mem := t.mem } ∧
      s.Stores t [(s.sp - 1, hi s.pc), (s.sp - 2, lo s.pc)]

/-- R622 to R625, R730: the maskable acknowledgment in modes 0 and 1. The model's choices in it: the contention of the two writes is
drawn from a list keyed by access (log entry 5, DESIGN CHOICE), and the counter is narrowed at the end (R11; log entry 7, DEDUCED). -/
def Obligations.InterruptEntryInModesZeroAndOne : Prop :=
  ∀ s : State, s.resetPending = false → s.boundary = true → s.nmiPending = false → s.intLine = true → s.iff1 = true →
    s.blocked = false → s.answered = true → s.im ≠ .im2 →
    let c := s.contended [.write (s.sp - 1), .write (s.sp - 2)]
    ∃ t : State, step s = .next t ∧
      t = { s with
            halted := false, r := inc7 s.r, iff1 := false, iff2 := false, sp := s.sp - 2, pc := 0x0038, wz := 0x0038
            tacts := s.narrow (c.tacts + 13), contention := c.contention, mem := t.mem } ∧
      s.Stores t [(s.sp - 1, hi s.pc), (s.sp - 2, lo s.pc)]

/-- R622, R623, R626, R730: the maskable acknowledgment in mode 2. The table entry at `I * 256 + v` is read after the push, `v` being the
byte on the bus, whatever it is. The model's choices in it: the byte is the head of a queue of draws, else a free value, and a counter of
draws advances (log entry 4, DESIGN CHOICE); the contention of the four accesses is drawn from a list keyed by access (log entry 5,
DESIGN CHOICE); the counter is narrowed at the end (R11; log entry 7, DEDUCED). -/
def Obligations.InterruptEntryInModeTwo : Prop :=
  ∀ s : State, s.resetPending = false → s.boundary = true → s.nmiPending = false → s.intLine = true → s.iff1 = true →
    s.blocked = false → s.answered = true → s.im = .im2 →
    let entry := word s.i s.busByte
    let c := s.contended [.write (s.sp - 1), .write (s.sp - 2), .busVector, .read entry, .read (entry + 1)]
    ∃ t : State, step s = .next t ∧
      t = { s with
            halted := false, r := inc7 s.r, iff1 := false, iff2 := false, sp := s.sp - 2, pc := t.pc, wz := t.pc
            tacts := s.narrow (c.tacts + 19), contention := c.contention
            busVector := s.busVector.tail, draws := s.draws + 1, mem := t.mem } ∧
      s.Stores t [(s.sp - 1, hi s.pc), (s.sp - 2, lo s.pc)] ∧
      lo t.pc = t.read8 entry ∧ hi t.pc = t.read8 (entry + 1)

/-- R615: the halted step, where neither reset, NMI nor the maskable interrupt is taken. A sum is truncated to the width of the counter
(R11, R54). -/
def Obligations.HaltedStepOnlyCountsRAndTacts : Prop :=
  ∀ s : State, s.resetPending = false → s.boundary = true → s.nmiPending = false → s.acceptsInt = false → s.halted = true →
    step s = .next { s with r := inc7 s.r, tacts := s.narrow (s.tacts + 4) }

/-- R612: between a prefix byte and its opcode neither the NMI request nor the INT line makes any difference to the step, and both
are still there after it. -/
def Obligations.NoInterruptInsideAnInstruction : Prop :=
  ∀ (s : State) (n l : Bool), s.resetPending = false → s.boundary = false →
    (∀ t : State, step s = .next t →
      step { s with nmiPending := n, intLine := l } = .next { t with nmiPending := n, intLine := l }) ∧
    (∀ t : State, step s = .next t → t.nmiPending = s.nmiPending ∧ t.intLine = s.intLine)

/-- R51, R119: a prefix step keeps the interrupt-blocked flag and leaves a context other than None; any other instruction ends at a
boundary with the flag clear, but for EI, which leaves it set. -/
def Obligations.OnlyEiLeavesTheBlockedFlagSet : Prop :=
  ∀ (s t : State) (i : Instr) (rest : List Byte), s.fetches = true → decodeIn s.context s.fetchBytes = .ok (i, rest) →
    step s = .next t →
    if i.isPrefixStep = true then t.blocked = s.blocked ∧ t.boundary = false
    else t.blocked = decide (coreInstr i = .ei) ∧ t.boundary = true

/-- R601: a collaborator that fails takes the step away, wherever the step calls it, and leaves the tacts already consumed in place. The
fault carries a sum truncated to the width of the counter (R11, R54): the counter before the step, the contention of every access up to
and with the failing one, the 4 tacts of an M1 fetch before it, and what else was consumed. The sum before truncation is never less than
the counter before the step; truncated, it may be, where the counter wraps. A step that makes too few calls to reach the failing one does
not fault; so the reset step and the halted step never do. The model's choices in it: which call fails and what else was consumed by then
are the environment's (log entry 6, DESIGN CHOICE); contention is drawn from a list keyed by access (log entry 5, DESIGN CHOICE); the sum
is truncated once, as a whole (R11; log entry 7, DEDUCED). -/
def Obligations.DeviceFailureStopsAnAccessingStep : Prop :=
  ∀ (s : State) (f : Failure), s.failure = some f →
    (f.access < s.stepAccesses.length → ∃ n : Nat, step s = .fault (.deviceFailure (s.narrow n)) ∧ s.tacts ≤ n ∧
      n = (s.contended (s.stepAccesses.take (f.access + 1))).tacts + fetchTacts (s.stepAccesses.take f.access) + f.tacts) ∧
    (s.stepAccesses.length ≤ f.access → ∀ g : Fault, step s ≠ .fault g) ∧
    (s.resetPending = true ∨ (s.halted = true ∧ s.boundary = true ∧ s.nmiPending = false ∧ s.acceptsInt = false) →
      s.stepAccesses = [])

/-- R732, R730, R89: every step but the reset step adds at least 4 tacts to the contention of its accesses, so that an unbounded counter
only increases. Contention changes the tacts and uses up draws, nothing else; it adds, access by access, the first draw that names the
access, and nothing where none does or where the access is neither to memory nor to a port. The model's choices in it: the list of draws
keyed by access (log entry 5, DESIGN CHOICE), and the narrowing at the end of the step (R11; log entry 7, DEDUCED). -/
def Obligations.TactsOnlyIncrease : Prop :=
  (∀ s t : State, s.resetPending = false → step s = .next t →
    ∃ n : Nat, 4 ≤ n ∧ t.tacts = s.narrow ((s.contended s.stepAccesses).tacts + n) ∧
      (s.tactWidth = none → s.tacts + 4 ≤ t.tacts)) ∧
  (∀ (s : State) (xs : List Access),
    s.contended xs = { s with tacts := (s.contended xs).tacts, contention := (s.contended xs).contention } ∧
    (∀ x : Access, s.contended (x :: xs) = (s.contended [x]).contended xs)) ∧
  ∀ (s : State) (x : Access) (n : Nat) (before after : List (Access × Nat)), (∀ d ∈ before, d.1 ≠ x) →
    s.contention = before ++ (x, n) :: after → x ≠ .busVector →
    s.contended [x] = { s with tacts := s.tacts + n, contention := before ++ after } ∧
    ({ s with contention := before }).contended [x] = { s with contention := before } ∧
    s.contended [.busVector] = s

/-- The invariant: every step keeps a legal state legal. -/
def Obligations.EveryStepKeepsTheStateLegal : Prop :=
  ∀ s t : State, s.legal = true → step s = .next t → t.legal = true

/-- The state after power-up is legal, and so is the state that the reset step leaves. -/
def Obligations.ResetStatesAreLegal : Prop :=
  State.reset.legal = true ∧ ∀ s : State, s.legal = true → s.resetSignal.legal = true

/-- R600, R630: every well-formed instruction completes in every state: none traps, none is refused, none is privileged. -/
def Obligations.EveryInstructionCompletes : Prop :=
  ∀ (i : Instr) (s : State), i.wf = true → ∃ t : State, exec i s = .next t

/-- R45, R46, R48 to R53, R31, R80, R81, R83, R98: the control registers and the shadow pairs change only where the spec names the writer;
memory takes writes at exactly the addresses that the instruction's accesses name, in their order, and the ports are written and read at
exactly those that they name. Unless the collaborator pages on a write, every byte reads as before but where a write reaches it: not in a
read-only window, and wherever another address names the same cell. The model's choices in it: the windows of the collaborator (log entry
2, DESIGN CHOICE), the queue of draws and the list of events (log entries 3 and 8, DESIGN CHOICE). -/
def Obligations.ControlStateHasOnlyItsNamedWriters : Prop :=
  ∀ (i : Instr) (s t : State), exec i s = .next t →
    (t.i = s.i ∨ i = .ldIA) ∧
    (t.r = s.r ∨ i = .ldRegRA) ∧
    ((t.iff1 = s.iff1 ∧ t.iff2 = s.iff2) ∨ coreInstr i = .di ∨ coreInstr i = .ei ∨
      (t.iff1 = s.iff2 ∧ t.iff2 = s.iff2 ∧ (i = .reti ∨ ∃ y, i = .retn y))) ∧
    (t.im = s.im ∨ ∃ y, i = .im0 y ∨ i = .im1 y ∨ i = .im2 y) ∧
    (t.halted = s.halted ∨ coreInstr i = .halt) ∧
    (t.blocked = s.blocked ∨ coreInstr i = .ei) ∧
    ((t.prefixMode = s.prefixMode ∧ t.indexMode = s.indexMode) ∨ i.isPrefixStep = true) ∧
    t.resetPending = s.resetPending ∧ t.nmiPending = s.nmiPending ∧ t.intLine = s.intLine ∧
    (t.afShadow = s.afShadow ∨ coreInstr i = .exAfAf) ∧
    ((t.bcShadow = s.bcShadow ∧ t.deShadow = s.deShadow ∧ t.hlShadow = s.hlShadow) ∨ coreInstr i = .exx) ∧
    (∃ vs : List Byte, vs.length = (s.writtenBy i).length ∧ s.Stores t ((s.writtenBy i).zip vs) ∧
      (s.mem.switches = [] →
        ∀ b : Word, t.read8 b = lastWritten (fun a => s.reaches a b) (s.read8 b) ((s.writtenBy i).zip vs))) ∧
    (∃ vs : List Byte, vs.length = (s.portsWrittenBy i).length ∧ t.portOut = s.portOut ++ (s.portsWrittenBy i).zip vs) ∧
    t.portIn = s.portIn.drop (s.portsReadBy i).length ∧ t.draws = s.draws + (s.portsReadBy i).length ∧
    t.busVector = s.busVector ∧ t.contention = s.contention ∧ t.failure = s.failure ∧ t.tactWidth = s.tactWidth

/-- R640 to R642, R644: each interaction of the table changes exactly the named piece of state: the signals, the setters
(`SetInterruptMode` is refused outside 0 to 2), the choice of the next draws, a load of one byte of memory or of any register. The
model's choices in it: the interactions as functions between steps, with the failing collaborator and the paging of R601 and R92 among
them (log entry 16, DESIGN CHOICE); that a choice of a draw is queued behind the ones before it (log entry 18, DESIGN CHOICE); that
`SetTacts` narrows to the width of the counter (R11; log entry 7, DEDUCED). -/
def Obligations.HostActionsChangeExactlyTheirPiece : Prop :=
  ∀ s : State,
    s.hostAct .requestReset = .next { s with resetPending := true } ∧
    s.hostAct .requestNmi = .next { s with nmiPending := true } ∧
    (∀ b : Bool, s.hostAct (.setIntLine b) = .next { s with intLine := b }) ∧
    s.hostAct .blockInterrupt = .next { s with blocked := true } ∧
    s.hostAct (.setInterruptMode 0) = .next { s with im := .im0 } ∧
    s.hostAct (.setInterruptMode 1) = .next { s with im := .im1 } ∧
    s.hostAct (.setInterruptMode 2) = .next { s with im := .im2 } ∧
    (∀ m : Nat, 2 < m → s.hostAct (.setInterruptMode m) = .refused .badInterruptMode) ∧
    (∀ n : Nat, s.hostAct (.setTacts n) = .next { s with tacts := s.narrow n }) ∧
    (∀ v : Byte, ∃ t : State, s.hostAct (.drawBusVector v) = .next t ∧
      t = { s with busVector := t.busVector } ∧ t.busVector = s.busVector ++ [v] ∧ (s.busVector = [] → t.busByte = v)) ∧
    (∀ v : Byte, ∃ t : State, s.hostAct (.drawPortIn v) = .next t ∧
      t = { s with portIn := t.portIn } ∧ t.portIn = s.portIn ++ [v] ∧ (s.portIn = [] → ∀ port : Word, t.portByte port = v)) ∧
    (∀ (x : Access) (n : Nat), ∃ t : State, s.hostAct (.drawContention x n) = .next t ∧
      t = { s with contention := t.contention } ∧ t.contention = s.contention ++ [(x, n)] ∧
      (x ≠ .busVector → (∀ d ∈ s.contention, d.1 ≠ x) → (t.contend x).tacts = s.tacts + n)) ∧
    (∀ f : Option Failure, s.hostAct (.setFailure f) = .next { s with failure := f }) ∧
    (∀ ws : List Window, s.hostAct (.page ws) = .next { s with mem := { s.mem with windows := ws } }) ∧
    (∀ (a : Word) (v : Byte), ∃ t : State, s.hostAct (.loadByte a v) = .next t ∧
      t = { s with mem := { s.mem with cells := t.mem.cells } } ∧
      (∀ b : Word, t.read8 b = if s.mem.cell b = s.mem.cell a then v else s.read8 b) ∧
      (s.mem.isFlat = true → ∀ b : Word, t.read8 b = if b = a then v else s.read8 b)) ∧
    ∀ v : Word,
      s.hostAct (.loadRegister (.main .af) v) = .next { s with af := v } ∧
      s.hostAct (.loadRegister (.main .bc) v) = .next { s with bc := v } ∧
      s.hostAct (.loadRegister (.main .de) v) = .next { s with de := v } ∧
      s.hostAct (.loadRegister (.main .hl) v) = .next { s with hl := v } ∧
      s.hostAct (.loadRegister (.shadow .af) v) = .next { s with afShadow := v } ∧
      s.hostAct (.loadRegister (.shadow .bc) v) = .next { s with bcShadow := v } ∧
      s.hostAct (.loadRegister (.shadow .de) v) = .next { s with deShadow := v } ∧
      s.hostAct (.loadRegister (.shadow .hl) v) = .next { s with hlShadow := v } ∧
      s.hostAct (.loadRegister (.index .ix) v) = .next { s with ix := v } ∧
      s.hostAct (.loadRegister (.index .iy) v) = .next { s with iy := v } ∧
      s.hostAct (.loadRegister .sp v) = .next { s with sp := v } ∧
      s.hostAct (.loadRegister .pc v) = .next { s with pc := v } ∧
      s.hostAct (.loadRegister .wz v) = .next { s with wz := v } ∧
      s.hostAct (.loadRegister .ir v) = .next { s with i := hi v, r := lo v }

/-- R115: after DD or FD, bytes that no IX|IY row matches decode to their context-None meaning, so also `EX DE,HL` (EB) and `EXX` (D9),
which exchange HL itself; bytes of any other meaning never do; and the fall-back completes as the instruction of context None does. The
constructor `anyOther` that carries the meaning, and the list `Instr.unsubstituted` of what may stand in it, are the model's (log entry
13, DESIGN CHOICE). -/
def Obligations.FallbackExecutesTheContextNoneInstruction : Prop :=
  (∀ (x : Index) (bytes rest : List Byte) (j : Instr), decodeIn .plain bytes = .ok (j, rest) →
    if j.unsubstituted = true then decodeIn (.index x) bytes = .ok (.anyOther x j, rest)
    else ∀ (y : Index) (k : Instr) (more : List Byte), decodeIn (.index x) bytes ≠ .ok (.anyOther y k, more)) ∧
  (∀ (x : Index) (j : Instr) (s : State), j.unsubstituted = true →
    ∃ t : State, exec (.anyOther x j) s = .next t ∧ exec j s = .next t) ∧
  ∀ x : Index, Reads (.index x) [0xEB] (.anyOther x .exDeHl) ∧ Reads (.index x) [0xD9] (.anyOther x .exx)

/-! ### 8-bit loads (40_load8.md) -/

/-- R200, R201: `LD r,r'` and `LD r,n`. -/
def Obligations.LoadRegisterFromRegisterOrImmediate : Prop :=
  (∀ dst src : Reg8, Reads .plain [opcode 0x40 (regNumber dst) (regNumber src)] (.ldRR dst src) ∧
    ∀ s : State, ∃ t : State, exec (.ldRR dst src) s = .next t ∧
      t = { s with af := t.af, bc := t.bc, de := t.de, hl := t.hl, tacts := s.tacts + (4 - 4) } ∧ t.f = s.f ∧
      ∀ q : Reg8, t.reg8 q = if q = dst then s.reg8 src else s.reg8 q) ∧
  (∀ (r : Reg8) (n : Byte), Reads .plain [opcode 0x00 (regNumber r) 6, n] (.ldRN r n) ∧
    ∀ s : State, ∃ t : State, exec (.ldRN r n) s = .next t ∧
      t = { s with af := t.af, bc := t.bc, de := t.de, hl := t.hl, tacts := s.tacts + (7 - 4) } ∧ t.f = s.f ∧
      ∀ q : Reg8, t.reg8 q = if q = r then n else s.reg8 q)

/-- R212: the loads of and from the index halves; H and L cannot be reached. -/
def Obligations.LoadIndexHalves : Prop :=
  (∀ (x : Index) (dst src : Reg8), (dst.isHL || src.isHL) = true →
    Reads (.index x) [opcode 0x40 (regNumber dst) (regNumber src)] (.ldRRHalves x dst src) ∧
    ∀ s : State, ∃ t : State, exec (.ldRRHalves x dst src) s = .next t ∧
      t = { s with af := t.af, bc := t.bc, de := t.de, ix := t.ix, iy := t.iy, tacts := s.tacts + (8 - 8) } ∧ t.f = s.f ∧
      (∀ y : Index, y ≠ x → t.index y = s.index y) ∧
      ∀ q : Reg8, t.reg8x x q = if q = dst then s.reg8x x src else s.reg8x x q) ∧
  (∀ (x : Index) (q : Half) (n : Byte), Reads (.index x) [opcode 0x00 (halfNumber q) 6, n] (.ldXHalfN x q n) ∧
    ∀ s : State, ∃ t : State, exec (.ldXHalfN x q n) s = .next t ∧
      t = { s with ix := t.ix, iy := t.iy, tacts := s.tacts + (11 - 8) } ∧
      ∀ (y : Index) (k : Half), t.indexHalf y k = if y = x ∧ k = q then n else s.indexHalf y k)

/-- R202, R209: `LD r,(HL)`, with the old HL as the address, and `LD r,(IXY+d)`, with H and L not substituted. -/
def Obligations.LoadRegisterFromMemory : Prop :=
  (∀ r : Reg8, Reads .plain [opcode 0x40 (regNumber r) 6] (.ldRIndHl r) ∧
    ∀ s : State, ∃ t : State, exec (.ldRIndHl r) s = .next t ∧
      t = { s with af := t.af, bc := t.bc, de := t.de, hl := t.hl, tacts := s.tacts + (7 - 4) } ∧ t.f = s.f ∧
      ∀ q : Reg8, t.reg8 q = if q = r then s.read8 s.hl else s.reg8 q) ∧
  (∀ (x : Index) (r : Reg8) (d : Byte), Reads (.index x) [opcode 0x40 (regNumber r) 6, d] (.ldRIdx x r d) ∧
    ∀ s : State, ∃ t : State, exec (.ldRIdx x r d) s = .next t ∧
      t = { s with
            af := t.af, bc := t.bc, de := t.de, hl := t.hl, wz := s.index x + d.signExtend 16
            tacts := s.tacts + (19 - 8) } ∧ t.f = s.f ∧
      ∀ q : Reg8, t.reg8 q = if q = r then s.read8 (s.index x + d.signExtend 16) else s.reg8 q)

/-- R203, R204, R210, R211: the stores of a register or an immediate at HL and at IXY+d. -/
def Obligations.StoreRegisterOrImmediate : Prop :=
  (∀ r : Reg8, Reads .plain [opcode 0x40 6 (regNumber r)] (.ldIndHlR r) ∧
    ∀ s : State, ∃ t : State, exec (.ldIndHlR r) s = .next t ∧
      t = { s with mem := t.mem, tacts := s.tacts + (7 - 4) } ∧
      s.Stores t [(s.hl, s.reg8 r)]) ∧
  (∀ n : Byte, Reads .plain [0x36, n] (.ldIndHlN n) ∧
    ∀ s : State, ∃ t : State, exec (.ldIndHlN n) s = .next t ∧
      t = { s with mem := t.mem, tacts := s.tacts + (10 - 4) } ∧
      s.Stores t [(s.hl, n)]) ∧
  (∀ (x : Index) (d : Byte) (r : Reg8), Reads (.index x) [opcode 0x40 6 (regNumber r), d] (.ldIdxR x d r) ∧
    ∀ s : State, ∃ t : State, exec (.ldIdxR x d r) s = .next t ∧
      t = { s with mem := t.mem, wz := s.index x + d.signExtend 16, tacts := s.tacts + (19 - 8) } ∧
      s.Stores t [(s.index x + d.signExtend 16, s.reg8 r)]) ∧
  (∀ (x : Index) (d n : Byte), Reads (.index x) [0x36, d, n] (.ldIdxN x d n) ∧
    ∀ s : State, ∃ t : State, exec (.ldIdxN x d n) s = .next t ∧
      t = { s with mem := t.mem, wz := s.index x + d.signExtend 16, tacts := s.tacts + (19 - 8) } ∧
      s.Stores t [(s.index x + d.signExtend 16, n)])

/-- R205, R207: `LD A,(BC)`, `LD A,(DE)` and `LD A,(nn)`. -/
def Obligations.LoadAccumulatorThroughAnAddress : Prop :=
  (Reads .plain [0x0A] .ldAIndBc ∧ ∀ s : State, ∃ t : State, exec .ldAIndBc s = .next t ∧
    t = { s with af := t.af, wz := s.bc + 1, tacts := s.tacts + (7 - 4) } ∧ t.f = s.f ∧ t.reg8 .a = s.read8 s.bc) ∧
  (Reads .plain [0x1A] .ldAIndDe ∧ ∀ s : State, ∃ t : State, exec .ldAIndDe s = .next t ∧
    t = { s with af := t.af, wz := s.de + 1, tacts := s.tacts + (7 - 4) } ∧ t.f = s.f ∧ t.reg8 .a = s.read8 s.de) ∧
  (∀ l h : Byte, Reads .plain [0x3A, l, h] (.ldAIndNn (word h l))) ∧
  (∀ (nn : Word) (s : State), ∃ t : State, exec (.ldAIndNn nn) s = .next t ∧
    t = { s with af := t.af, wz := nn + 1, tacts := s.tacts + (13 - 4) } ∧ t.f = s.f ∧ t.reg8 .a = s.read8 nn)

/-- R206, R208: `LD (BC),A`, `LD (DE),A` and `LD (nn),A`: W is A, and Z is the low byte of the address plus 1, with no carry. -/
def Obligations.StoreAccumulatorThroughAnAddress : Prop :=
  (Reads .plain [0x02] .ldIndBcA ∧ ∀ s : State, ∃ t : State, exec .ldIndBcA s = .next t ∧
    t = { s with mem := t.mem, wz := t.wz, tacts := s.tacts + (7 - 4) } ∧
    hi t.wz = s.reg8 .a ∧ lo t.wz = lo s.bc + 1 ∧ s.Stores t [(s.bc, s.reg8 .a)]) ∧
  (Reads .plain [0x12] .ldIndDeA ∧ ∀ s : State, ∃ t : State, exec .ldIndDeA s = .next t ∧
    t = { s with mem := t.mem, wz := t.wz, tacts := s.tacts + (7 - 4) } ∧
    hi t.wz = s.reg8 .a ∧ lo t.wz = lo s.de + 1 ∧ s.Stores t [(s.de, s.reg8 .a)]) ∧
  (∀ l h : Byte, Reads .plain [0x32, l, h] (.ldIndNnA (word h l))) ∧
  (∀ (nn : Word) (s : State), ∃ t : State, exec (.ldIndNnA nn) s = .next t ∧
    t = { s with mem := t.mem, wz := t.wz, tacts := s.tacts + (13 - 4) } ∧
    hi t.wz = s.reg8 .a ∧ lo t.wz = lo nn + 1 ∧ s.Stores t [(nn, s.reg8 .a)])

/-- R213 to R216: the loads between A and I or R. R has counted this instruction's fetches when it is read. -/
def Obligations.LoadsOfTheInterruptAndRefreshRegisters : Prop :=
  (Reads .ed [0x57] .ldAI ∧ ∀ s : State, ∃ t : State, exec .ldAI s = .next t ∧
    t = { s with af := t.af, tacts := s.tacts + (9 - 8) } ∧ t.reg8 .a = s.i ∧
    t.flags.ShowsByte s.i ∧ t.flags.h = false ∧ t.flags.n = false ∧ t.flags.pv = s.iff2 ∧ t.flags.c = s.flags.c) ∧
  (Reads .ed [0x5F] .ldARegR ∧ ∀ s : State, ∃ t : State, exec .ldARegR s = .next t ∧
    t = { s with af := t.af, tacts := s.tacts + (9 - 8) } ∧ t.reg8 .a = s.r ∧
    t.flags.ShowsByte s.r ∧ t.flags.h = false ∧ t.flags.n = false ∧ t.flags.pv = s.iff2 ∧ t.flags.c = s.flags.c) ∧
  (Reads .ed [0x47] .ldIA ∧ ∀ s : State, exec .ldIA s = .next { s with i := s.reg8 .a, tacts := s.tacts + (9 - 8) }) ∧
  (Reads .ed [0x4F] .ldRegRA ∧ ∀ s : State, exec .ldRegRA s = .next { s with r := s.reg8 .a, tacts := s.tacts + (9 - 8) })

/-! ### 16-bit loads, stack, exchanges (41_load16_exchange.md) -/

/-- R240, R241, R248, R249: `LD rr,nn`, `LD IXY,nn`, `LD SP,HL` and `LD SP,IXY`. -/
def Obligations.LoadPairFromImmediateOrRegister : Prop :=
  (∀ (p : Pair) (l h : Byte), Reads .plain [opcode 0x01 (2 * pairNumber p) 0, l, h] (.ldRpNn p (word h l))) ∧
  (∀ (p : Pair) (nn : Word) (s : State), ∃ t : State, exec (.ldRpNn p nn) s = .next t ∧
    t = { s with bc := t.bc, de := t.de, hl := t.hl, sp := t.sp, tacts := s.tacts + (10 - 4) } ∧
    ∀ q : Pair, t.pair q = if q = p then nn else s.pair q) ∧
  (∀ (x : Index) (l h : Byte), Reads (.index x) [0x21, l, h] (.ldXNn x (word h l))) ∧
  (∀ (x : Index) (nn : Word) (s : State), ∃ t : State, exec (.ldXNn x nn) s = .next t ∧
    t = { s with ix := t.ix, iy := t.iy, tacts := s.tacts + (14 - 8) } ∧
    ∀ y : Index, t.index y = if y = x then nn else s.index y) ∧
  (Reads .plain [0xF9] .ldSpHl ∧ ∀ s : State, exec .ldSpHl s = .next { s with sp := s.hl, tacts := s.tacts + (6 - 4) }) ∧
  (∀ x : Index, Reads (.index x) [0xF9] (.ldSpX x) ∧
    ∀ s : State, exec (.ldSpX x) s = .next { s with sp := s.index x, tacts := s.tacts + (10 - 8) })

/-- R242, R244, R246: the 16-bit loads from memory. The low byte is at nn, the high byte at nn + 1, modulo 2^16. -/
def Obligations.LoadPairFromMemory : Prop :=
  (∀ l h : Byte, Reads .plain [0x2A, l, h] (.ldHlIndNn (word h l))) ∧
  (∀ (nn : Word) (s : State), ∃ t : State, exec (.ldHlIndNn nn) s = .next t ∧
    t = { s with hl := t.hl, wz := nn + 1, tacts := s.tacts + (16 - 4) } ∧
    t.reg8 .l = s.read8 nn ∧ t.reg8 .h = s.read8 (nn + 1)) ∧
  (∀ (x : Index) (l h : Byte), Reads (.index x) [0x2A, l, h] (.ldXIndNn x (word h l))) ∧
  (∀ (x : Index) (nn : Word) (s : State), ∃ t : State, exec (.ldXIndNn x nn) s = .next t ∧
    t = { s with ix := t.ix, iy := t.iy, wz := nn + 1, tacts := s.tacts + (20 - 8) } ∧
    lo (t.index x) = s.read8 nn ∧ hi (t.index x) = s.read8 (nn + 1) ∧ ∀ y : Index, y ≠ x → t.index y = s.index y) ∧
  (∀ (p : Pair) (l h : Byte), Reads .ed [opcode 0x4B (2 * pairNumber p) 0, l, h] (.ldRpIndNn p (word h l))) ∧
  (∀ (p : Pair) (nn : Word) (s : State), ∃ t : State, exec (.ldRpIndNn p nn) s = .next t ∧
    t = { s with bc := t.bc, de := t.de, hl := t.hl, sp := t.sp, wz := nn + 1, tacts := s.tacts + (20 - 8) } ∧
    lo (t.pair p) = s.read8 nn ∧ hi (t.pair p) = s.read8 (nn + 1) ∧ ∀ q : Pair, q ≠ p → t.pair q = s.pair q)

/-- R243, R245, R247: the 16-bit stores. -/
def Obligations.StorePairToMemory : Prop :=
  (∀ l h : Byte, Reads .plain [0x22, l, h] (.ldIndNnHl (word h l))) ∧
  (∀ (nn : Word) (s : State), ∃ t : State, exec (.ldIndNnHl nn) s = .next t ∧
    t = { s with mem := t.mem, wz := nn + 1, tacts := s.tacts + (16 - 4) } ∧
    s.Stores t [(nn, s.reg8 .l), (nn + 1, s.reg8 .h)]) ∧
  (∀ (x : Index) (l h : Byte), Reads (.index x) [0x22, l, h] (.ldIndNnX x (word h l))) ∧
  (∀ (x : Index) (nn : Word) (s : State), ∃ t : State, exec (.ldIndNnX x nn) s = .next t ∧
    t = { s with mem := t.mem, wz := nn + 1, tacts := s.tacts + (20 - 8) } ∧
    s.Stores t [(nn, lo (s.index x)), (nn + 1, hi (s.index x))]) ∧
  (∀ (p : Pair) (l h : Byte), Reads .ed [opcode 0x43 (2 * pairNumber p) 0, l, h] (.ldIndNnRp p (word h l))) ∧
  (∀ (p : Pair) (nn : Word) (s : State), ∃ t : State, exec (.ldIndNnRp p nn) s = .next t ∧
    t = { s with mem := t.mem, wz := nn + 1, tacts := s.tacts + (20 - 8) } ∧
    s.Stores t [(nn, lo (s.pair p)), (nn + 1, hi (s.pair p))])

/-- R250 to R253: PUSH writes the high byte at SP - 1 and the low byte at SP - 2; POP reads the low byte at SP and the high byte at
SP + 1, and `POP AF` so writes all eight flags. -/
def Obligations.PushAndPop : Prop :=
  (∀ q : StackPair, Reads .plain [opcode 0xC5 (2 * stackPairNumber q) 0] (.pushRp q) ∧
    ∀ s : State, ∃ t : State, exec (.pushRp q) s = .next t ∧
      t = { s with mem := t.mem, sp := s.sp - 2, tacts := s.tacts + (11 - 4) } ∧
      s.Stores t [(s.sp - 1, hi (s.stackPair q)), (s.sp - 2, lo (s.stackPair q))]) ∧
  (∀ x : Index, Reads (.index x) [0xE5] (.pushX x) ∧
    ∀ s : State, ∃ t : State, exec (.pushX x) s = .next t ∧
      t = { s with mem := t.mem, sp := s.sp - 2, tacts := s.tacts + (15 - 8) } ∧
      s.Stores t [(s.sp - 1, hi (s.index x)), (s.sp - 2, lo (s.index x))]) ∧
  (∀ q : StackPair, Reads .plain [opcode 0xC1 (2 * stackPairNumber q) 0] (.popRp q) ∧
    ∀ s : State, ∃ t : State, exec (.popRp q) s = .next t ∧
      t = { s with af := t.af, bc := t.bc, de := t.de, hl := t.hl, sp := s.sp + 2, tacts := s.tacts + (10 - 4) } ∧
      lo (t.stackPair q) = s.read8 s.sp ∧ hi (t.stackPair q) = s.read8 (s.sp + 1) ∧
      ∀ p : StackPair, p ≠ q → t.stackPair p = s.stackPair p) ∧
  (∀ x : Index, Reads (.index x) [0xE1] (.popX x) ∧
    ∀ s : State, ∃ t : State, exec (.popX x) s = .next t ∧
      t = { s with ix := t.ix, iy := t.iy, sp := s.sp + 2, tacts := s.tacts + (14 - 8) } ∧
      lo (t.index x) = s.read8 s.sp ∧ hi (t.index x) = s.read8 (s.sp + 1) ∧ ∀ y : Index, y ≠ x → t.index y = s.index y)

/-- R254 to R258: the exchanges between registers, and with the word at SP. -/
def Obligations.Exchanges : Prop :=
  (Reads .plain [0xEB] .exDeHl ∧ ∀ s : State, exec .exDeHl s = .next { s with de := s.hl, hl := s.de }) ∧
  (Reads .plain [0x08] .exAfAf ∧ ∀ s : State, exec .exAfAf s = .next { s with af := s.afShadow, afShadow := s.af }) ∧
  (Reads .plain [0xD9] .exx ∧ ∀ s : State, exec .exx s = .next
    { s with
      bc := s.bcShadow, de := s.deShadow, hl := s.hlShadow, bcShadow := s.bc, deShadow := s.de, hlShadow := s.hl }) ∧
  (Reads .plain [0xE3] .exIndSpHl ∧
    ∀ s : State, ∃ t : State, exec .exIndSpHl s = .next t ∧
      t = { s with mem := t.mem, hl := t.hl, wz := t.hl, tacts := s.tacts + (19 - 4) } ∧
      lo t.hl = s.read8 s.sp ∧ hi t.hl = s.read8 (s.sp + 1) ∧
      s.Stores t [(s.sp + 1, hi s.hl), (s.sp, lo s.hl)]) ∧
  (∀ x : Index, Reads (.index x) [0xE3] (.exIndSpX x) ∧
    ∀ s : State, ∃ t : State, exec (.exIndSpX x) s = .next t ∧
      t = { s with mem := t.mem, ix := t.ix, iy := t.iy, wz := t.index x, tacts := s.tacts + (23 - 8) } ∧
      lo (t.index x) = s.read8 s.sp ∧ hi (t.index x) = s.read8 (s.sp + 1) ∧ (∀ y : Index, y ≠ x → t.index y = s.index y) ∧
      s.Stores t [(s.sp + 1, hi (s.index x)), (s.sp, lo (s.index x))])

/-! ### Block transfer and search (42_block_transfer_search.md) -/

/-- R280 to R283, R288: LDI, LDD and their repeating forms. `delta` is 1 or -1; where the form repeats, the PC is back on the ED byte and
WZ on the byte after it. -/
def Obligations.BlockTransfers : Prop :=
  Reads .ed [0xA0] .ldi ∧ Reads .ed [0xA8] .ldd ∧ Reads .ed [0xB0] .ldir ∧ Reads .ed [0xB8] .lddr ∧
  ∀ e ∈ [(Instr.ldi, (1 : Word), false), (.ldd, -1, false), (.ldir, 1, true), (.lddr, -1, true)], ∀ s : State, ∃ t : State,
    exec e.1 s = .next t ∧
    t = { s with
          mem := t.mem, hl := s.hl + e.2.1, de := s.de + e.2.1, bc := s.bc - 1, af := t.af
          pc := if e.2.2 = true ∧ s.bc ≠ 1 then s.pc - 2 else s.pc
          wz := if e.2.2 = true ∧ s.bc ≠ 1 then s.pc - 2 + 1 else s.wz
          tacts := s.tacts + ((if e.2.2 = true ∧ s.bc ≠ 1 then 21 else 16) - 8) } ∧
    s.Stores t [(s.de, s.read8 s.hl)] ∧
    t.reg8 .a = s.reg8 .a ∧
    t.flags = { s.flags with
                h := false, n := false, pv := decide (s.bc ≠ 1)
                y := (s.read8 s.hl + s.reg8 .a).getLsbD 1, x := (s.read8 s.hl + s.reg8 .a).getLsbD 3 }

/-- R284 to R288: CPI, CPD and their repeating forms, which stop on a match too. -/
def Obligations.BlockSearches : Prop :=
  Reads .ed [0xA1] .cpi ∧ Reads .ed [0xA9] .cpd ∧ Reads .ed [0xB1] .cpir ∧ Reads .ed [0xB9] .cpdr ∧
  ∀ e ∈ [(Instr.cpi, (1 : Word), false), (.cpd, -1, false), (.cpir, 1, true), (.cpdr, -1, true)], ∀ s : State, ∃ t : State,
    exec e.1 s = .next t ∧
    t = { s with
          hl := s.hl + e.2.1, bc := s.bc - 1, af := t.af
          pc := if e.2.2 = true ∧ s.bc ≠ 1 ∧ s.reg8 .a ≠ s.read8 s.hl then s.pc - 2 else s.pc
          wz := if e.2.2 = true ∧ s.bc ≠ 1 ∧ s.reg8 .a ≠ s.read8 s.hl then s.pc - 2 + 1 else s.wz + e.2.1
          tacts := s.tacts + ((if e.2.2 = true ∧ s.bc ≠ 1 ∧ s.reg8 .a ≠ s.read8 s.hl then 21 else 16) - 8) } ∧
    t.reg8 .a = s.reg8 .a ∧
    t.flags.s = (s.reg8 .a - s.read8 s.hl).getLsbD 7 ∧
    t.flags.z = decide (s.reg8 .a = s.read8 s.hl) ∧
    t.flags.h = decide ((s.reg8 .a).toNat % 16 < (s.read8 s.hl).toNat % 16) ∧
    t.flags.pv = decide (s.bc ≠ 1) ∧ t.flags.n = true ∧ t.flags.c = s.flags.c ∧
    t.flags.y = (s.reg8 .a - s.read8 s.hl - BitVec.ofNat 8 t.flags.h.toNat).getLsbD 1 ∧
    t.flags.x = (s.reg8 .a - s.read8 s.hl - BitVec.ofNat 8 t.flags.h.toNat).getLsbD 3

/-! ### 8-bit arithmetic and logic (43_alu8.md) -/

/-- R300, R305 to R307: ADD and ADC in the five operand forms. -/
def Obligations.AddAndAddWithCarry : Prop :=
  ∀ f : AluForm, Reads f.context (f.bytes 0) (aluInstr .add f) ∧ Reads f.context (f.bytes 1) (aluInstr .adc f) ∧
    ∀ s : State,
      (∃ t : State, exec (aluInstr .add f) s = .next t ∧
        t = { s with af := t.af, wz := f.wz s, tacts := s.tacts + f.tacts } ∧
        Added (s.reg8 .a) (f.operand s) false (t.reg8 .a) t.flags) ∧
      (∃ t : State, exec (aluInstr .adc f) s = .next t ∧
        t = { s with af := t.af, wz := f.wz s, tacts := s.tacts + f.tacts } ∧
        Added (s.reg8 .a) (f.operand s) s.flags.c (t.reg8 .a) t.flags)

/-- R301, R305, R308, R309, R322: SUB and SBC in the five operand forms, and NEG, which subtracts A from 0. -/
def Obligations.SubtractSubtractWithBorrowAndNegate : Prop :=
  (∀ f : AluForm, Reads f.context (f.bytes 2) (aluInstr .sub f) ∧ Reads f.context (f.bytes 3) (aluInstr .sbc f) ∧
    ∀ s : State,
      (∃ t : State, exec (aluInstr .sub f) s = .next t ∧
        t = { s with af := t.af, wz := f.wz s, tacts := s.tacts + f.tacts } ∧
        Subtracted (s.reg8 .a) (f.operand s) false (t.reg8 .a) t.flags) ∧
      (∃ t : State, exec (aluInstr .sbc f) s = .next t ∧
        t = { s with af := t.af, wz := f.wz s, tacts := s.tacts + f.tacts } ∧
        Subtracted (s.reg8 .a) (f.operand s) s.flags.c (t.reg8 .a) t.flags)) ∧
  (∀ y : Oct, Reads .ed [opcode 0x44 (octVal y) 0] (.neg y) ∧
    ∀ s : State, ∃ t : State, exec (.neg y) s = .next t ∧ t = { s with af := t.af, tacts := s.tacts + (8 - 8) } ∧
      Subtracted 0 (s.reg8 .a) false (t.reg8 .a) t.flags)

/-- R302, R305, R310 to R312: AND, XOR and OR in the five operand forms. -/
def Obligations.LogicalOperations : Prop :=
  ∀ e ∈ [(AluOp.and, fun a v : Byte => a &&& v, true), (.xor, fun a v => a ^^^ v, false), (.or, fun a v => a ||| v, false)],
    ∀ f : AluForm, Reads f.context (f.bytes e.1.number) (aluInstr e.1 f) ∧
    ∀ s : State, ∃ t : State, exec (aluInstr e.1 f) s = .next t ∧
      t = { s with af := t.af, wz := f.wz s, tacts := s.tacts + f.tacts } ∧
      t.reg8 .a = e.2.1 (s.reg8 .a) (f.operand s) ∧ t.flags.ShowsByte (t.reg8 .a) ∧ t.flags.h = e.2.2 ∧
      t.flags.pv = evenOnes (t.reg8 .a) ∧ t.flags.n = false ∧ t.flags.c = false

/-- R305, R313: CP in the five operand forms: A is kept, and Y and X come from the operand. -/
def Obligations.CompareKeepsTheAccumulator : Prop :=
  ∀ f : AluForm, Reads f.context (f.bytes 7) (aluInstr .cp f) ∧
    ∀ s : State, ∃ t : State, exec (aluInstr .cp f) s = .next t ∧
      t = { s with af := t.af, wz := f.wz s, tacts := s.tacts + f.tacts } ∧ t.reg8 .a = s.reg8 .a ∧
      t.flags.y = (f.operand s).getLsbD 5 ∧ t.flags.x = (f.operand s).getLsbD 3 ∧
      ∃ res : Byte, Subtracted (s.reg8 .a) (f.operand s) false res
        { t.flags with y := res.getLsbD 5, x := res.getLsbD 3 }

/-- R303, R304, R314 to R319: INC and DEC of a register, an index half, (HL) and (IXY+d); C is kept. -/
def Obligations.IncrementAndDecrementByte : Prop :=
  ∀ f : StepForm, Reads f.context (f.bytes 4) (incInstr f) ∧ Reads f.context (f.bytes 5) (decInstr f) ∧
    ∀ e ∈ [(incInstr f, (1 : Byte), 0xF, (0x7F : Byte), false), (decInstr f, -1, 0, 0x80, true)], ∀ s : State,
    ∃ t : State, exec e.1 s = .next t ∧
      t = { s with
            af := t.af, bc := t.bc, de := t.de, hl := t.hl, ix := t.ix, iy := t.iy, mem := t.mem
            wz := f.wz s, tacts := s.tacts + f.tacts } ∧
      (∀ q : Reg8, t.reg8 q = if f.register = some q then f.operand s + e.2.1 else s.reg8 q) ∧
      (∀ (x : Index) (q : Half), t.indexHalf x q = if f.indexHalf = some (x, q) then f.operand s + e.2.1 else s.indexHalf x q) ∧
      s.Stores t ((f.address s).toList.map fun a => (a, f.operand s + e.2.1)) ∧
      t.flags.ShowsByte (f.operand s + e.2.1) ∧ t.flags.h = decide ((f.operand s).toNat % 16 = e.2.2.1) ∧
      t.flags.pv = decide (f.operand s = e.2.2.2.1) ∧ t.flags.n = e.2.2.2.2 ∧ t.flags.c = s.flags.c

/-- R320: DAA, for every A and F. -/
def Obligations.DecimalAdjust : Prop :=
  Reads .plain [0x27] .daa ∧
  ∀ s : State, ∃ t : State, exec .daa s = .next t ∧ t = { s with af := t.af, tacts := s.tacts + (4 - 4) } ∧
    ((t.reg8 .a).toNat : Int) =
      (if s.flags.n = true then
        ((s.reg8 .a).toNat : Int) - (if s.flags.h = true ∨ (s.reg8 .a).toNat % 16 > 9 then 0x06 else 0)
          - (if s.flags.c = true ∨ (s.reg8 .a).toNat > 0x99 then 0x60 else 0)
      else
        ((s.reg8 .a).toNat : Int) + (if s.flags.h = true ∨ (s.reg8 .a).toNat % 16 > 9 then 0x06 else 0)
          + (if s.flags.c = true ∨ (s.reg8 .a).toNat > 0x99 then 0x60 else 0)) % 2 ^ 8 ∧
    t.flags.ShowsByte (t.reg8 .a) ∧
    t.flags.h = (if s.flags.n = true then decide (s.flags.h = true ∧ (s.reg8 .a).toNat % 16 < 6)
      else decide ((s.reg8 .a).toNat % 16 > 9)) ∧
    t.flags.pv = evenOnes (t.reg8 .a) ∧ t.flags.n = s.flags.n ∧
    t.flags.c = decide (s.flags.c = true ∨ (s.reg8 .a).toNat > 0x99)

/-- R306, R320: the purpose of DAA: after `ADD A,n` of two two-digit decimal numbers, it leaves the two-digit decimal sum, with the
hundred in C. -/
def Obligations.DecimalAdjustAfterAddIsDecimalAddition : Prop :=
  ∀ (s t u : State) (n : Byte), (s.reg8 .a).toNat / 16 ≤ 9 → (s.reg8 .a).toNat % 16 ≤ 9 → n.toNat / 16 ≤ 9 → n.toNat % 16 ≤ 9 →
    exec (.addN n) s = .next t → exec .daa t = .next u →
    (u.reg8 .a).toNat / 16 ≤ 9 ∧ (u.reg8 .a).toNat % 16 ≤ 9 ∧
    (u.reg8 .a).toNat / 16 * 10 + (u.reg8 .a).toNat % 16 + u.flags.c.toNat * 100 =
      ((s.reg8 .a).toNat / 16 * 10 + (s.reg8 .a).toNat % 16) + (n.toNat / 16 * 10 + n.toNat % 16)

/-- R321, R323, R324: CPL, SCF and CCF; Y and X come from the A that the instruction leaves. -/
def Obligations.AccumulatorAndCarryFlagOperations : Prop :=
  (Reads .plain [0x2F] .cpl ∧ ∀ s : State, ∃ t : State, exec .cpl s = .next t ∧
    t = { s with af := t.af, tacts := s.tacts + (4 - 4) } ∧ t.reg8 .a = s.reg8 .a ^^^ 0xFF ∧
    t.flags = { s.flags with h := true, n := true, y := (t.reg8 .a).getLsbD 5, x := (t.reg8 .a).getLsbD 3 }) ∧
  (Reads .plain [0x37] .scf ∧ ∀ s : State, ∃ t : State, exec .scf s = .next t ∧
    t = { s with af := t.af, tacts := s.tacts + (4 - 4) } ∧ t.reg8 .a = s.reg8 .a ∧
    t.flags = { s.flags with
                c := true, h := false, n := false, y := (s.reg8 .a).getLsbD 5, x := (s.reg8 .a).getLsbD 3 }) ∧
  (Reads .plain [0x3F] .ccf ∧ ∀ s : State, ∃ t : State, exec .ccf s = .next t ∧
    t = { s with af := t.af, tacts := s.tacts + (4 - 4) } ∧ t.reg8 .a = s.reg8 .a ∧
    t.flags = { s.flags with
                c := !s.flags.c, h := s.flags.c, n := false, y := (s.reg8 .a).getLsbD 5, x := (s.reg8 .a).getLsbD 3 })

/-! ### 16-bit arithmetic (44_alu16.md) -/

/-- R350, R351: `ADD HL,rr` and `ADD IXY,rr`, where code 10 names IXY itself; S, Z and PV are kept. -/
def Obligations.AddPairs : Prop :=
  (∀ p : Pair, Reads .plain [opcode 0x09 (2 * pairNumber p) 0] (.addHlRp p) ∧
    ∀ s : State, ∃ t : State, exec (.addHlRp p) s = .next t ∧
      t = { s with af := t.af, hl := t.hl, wz := s.hl + 1, tacts := s.tacts + (11 - 4) } ∧
      t.reg8 .a = s.reg8 .a ∧ t.hl.toNat = (s.hl.toNat + (s.pair p).toNat) % 2 ^ 16 ∧
      t.flags = { s.flags with
                  h := decide (s.hl.toNat % 4096 + (s.pair p).toNat % 4096 > 0xFFF)
                  c := decide (s.hl.toNat + (s.pair p).toNat > 0xFFFF)
                  n := false, y := t.hl.getLsbD 13, x := t.hl.getLsbD 11 }) ∧
  (∀ (x : Index) (p : Pair), Reads (.index x) [opcode 0x09 (2 * pairNumber p) 0] (.addXRp x p) ∧
    ∀ s : State, let v := if p = .hl then s.index x else s.pair p
      ∃ t : State, exec (.addXRp x p) s = .next t ∧
      t = { s with af := t.af, ix := t.ix, iy := t.iy, wz := s.index x + 1, tacts := s.tacts + (15 - 8) } ∧
      t.reg8 .a = s.reg8 .a ∧ (t.index x).toNat = ((s.index x).toNat + v.toNat) % 2 ^ 16 ∧
      (∀ y : Index, y ≠ x → t.index y = s.index y) ∧
      t.flags = { s.flags with
                  h := decide ((s.index x).toNat % 4096 + v.toNat % 4096 > 0xFFF)
                  c := decide ((s.index x).toNat + v.toNat > 0xFFFF)
                  n := false, y := (t.index x).getLsbD 13, x := (t.index x).getLsbD 11 })

/-- R352, R353: `ADC HL,rr` and `SBC HL,rr`, which write all eight flags. -/
def Obligations.AddAndSubtractPairsWithCarry : Prop :=
  (∀ p : Pair, Reads .ed [opcode 0x4A (2 * pairNumber p) 0] (.adcHlRp p) ∧
    ∀ s : State, ∃ t : State, exec (.adcHlRp p) s = .next t ∧
      t = { s with af := t.af, hl := t.hl, wz := s.hl + 1, tacts := s.tacts + (15 - 8) } ∧ t.reg8 .a = s.reg8 .a ∧
      t.hl.toNat = (s.hl.toNat + (s.pair p).toNat + s.flags.c.toNat) % 2 ^ 16 ∧
      t.flags.s = t.hl.getLsbD 15 ∧ t.flags.z = decide (t.hl = 0) ∧ t.flags.y = t.hl.getLsbD 13 ∧ t.flags.x = t.hl.getLsbD 11 ∧
      t.flags.h = decide (s.hl.toNat % 4096 + (s.pair p).toNat % 4096 + s.flags.c.toNat > 0xFFF) ∧
      t.flags.pv = decide (s.hl.getLsbD 15 = (s.pair p).getLsbD 15 ∧ t.hl.getLsbD 15 ≠ s.hl.getLsbD 15) ∧
      t.flags.n = false ∧ t.flags.c = decide (s.hl.toNat + (s.pair p).toNat + s.flags.c.toNat > 0xFFFF)) ∧
  (∀ p : Pair, Reads .ed [opcode 0x42 (2 * pairNumber p) 0] (.sbcHlRp p) ∧
    ∀ s : State, ∃ t : State, exec (.sbcHlRp p) s = .next t ∧
      t = { s with af := t.af, hl := t.hl, wz := s.hl + 1, tacts := s.tacts + (15 - 8) } ∧ t.reg8 .a = s.reg8 .a ∧
      (t.hl.toNat : Int) = ((s.hl.toNat : Int) - (s.pair p).toNat - s.flags.c.toNat) % 2 ^ 16 ∧
      t.flags.s = t.hl.getLsbD 15 ∧ t.flags.z = decide (t.hl = 0) ∧ t.flags.y = t.hl.getLsbD 13 ∧ t.flags.x = t.hl.getLsbD 11 ∧
      t.flags.h = decide (s.hl.toNat % 4096 < (s.pair p).toNat % 4096 + s.flags.c.toNat) ∧
      t.flags.pv = decide (s.hl.getLsbD 15 ≠ (s.pair p).getLsbD 15 ∧ t.hl.getLsbD 15 ≠ s.hl.getLsbD 15) ∧
      t.flags.n = true ∧ t.flags.c = decide (s.hl.toNat < (s.pair p).toNat + s.flags.c.toNat))

/-- R354 to R356: INC and DEC of a pair or an index register change no flag. -/
def Obligations.IncrementAndDecrementPairs : Prop :=
  (∀ p : Pair, Reads .plain [opcode 0x03 (2 * pairNumber p) 0] (.incRp p) ∧ Reads .plain [opcode 0x0B (2 * pairNumber p) 0] (.decRp p) ∧
    ∀ s : State,
      (∃ t : State, exec (.incRp p) s = .next t ∧
        t = { s with bc := t.bc, de := t.de, hl := t.hl, sp := t.sp, tacts := s.tacts + (6 - 4) } ∧
        ∀ q : Pair, t.pair q = if q = p then s.pair p + 1 else s.pair q) ∧
      (∃ t : State, exec (.decRp p) s = .next t ∧
        t = { s with bc := t.bc, de := t.de, hl := t.hl, sp := t.sp, tacts := s.tacts + (6 - 4) } ∧
        ∀ q : Pair, t.pair q = if q = p then s.pair p - 1 else s.pair q)) ∧
  (∀ x : Index, Reads (.index x) [0x23] (.incX x) ∧ Reads (.index x) [0x2B] (.decX x) ∧
    ∀ s : State,
      (∃ t : State, exec (.incX x) s = .next t ∧ t = { s with ix := t.ix, iy := t.iy, tacts := s.tacts + (10 - 8) } ∧
        ∀ y : Index, t.index y = if y = x then s.index x + 1 else s.index y) ∧
      (∃ t : State, exec (.decX x) s = .next t ∧ t = { s with ix := t.ix, iy := t.iy, tacts := s.tacts + (10 - 8) } ∧
        ∀ y : Index, t.index y = if y = x then s.index x - 1 else s.index y))

/-! ### Rotates and shifts (45_rotate_shift.md) -/

/-- R370 to R373: RLCA, RRCA, RLA and RRA keep S, Z and PV. -/
def Obligations.AccumulatorRotates : Prop :=
  Reads .plain [0x07] .rlca ∧ Reads .plain [0x0F] .rrca ∧ Reads .plain [0x17] .rla ∧ Reads .plain [0x1F] .rra ∧
  ∀ e ∈ [(Instr.rlca, RotOp.rlc), (.rrca, .rrc), (.rla, .rl), (.rra, .rr)], ∀ s : State, ∃ t : State,
    exec e.1 s = .next t ∧ t = { s with af := t.af, tacts := s.tacts + (4 - 4) } ∧
    (t.reg8 .a).toNat = e.2.result (s.reg8 .a) s.flags.c ∧
    t.flags = { s.flags with
                h := false, n := false, c := e.2.carry (s.reg8 .a)
                y := (t.reg8 .a).getLsbD 5, x := (t.reg8 .a).getLsbD 3 }

/-- R374 to R382: the eight rotates and shifts in their four forms. -/
def Obligations.RotatesAndShifts : Prop :=
  ∀ (o : RotOp) (f : CbForm), Reads f.context (f.bytes 0x00 o.number) (rotInstr o f) ∧
    ∀ s : State, ∃ (t : State) (res : Byte), exec (rotInstr o f) s = .next t ∧
      t = { s with
            af := t.af, bc := t.bc, de := t.de, hl := t.hl, mem := t.mem, wz := f.wz s, tacts := s.tacts + f.tacts } ∧
      res.toNat = o.result (f.operand s) s.flags.c ∧
      (∀ q : Reg8, t.reg8 q = if f.register = some q then res else s.reg8 q) ∧
      s.Stores t ((f.address s).toList.map fun a => (a, res)) ∧
      t.flags.ShowsByte res ∧ t.flags.h = false ∧ t.flags.pv = evenOnes res ∧ t.flags.n = false ∧
      t.flags.c = o.carry (f.operand s)

/-- R383, R384: RLD and RRD move the three low digits around; the high digit of A and the flag C are kept. -/
def Obligations.DecimalDigitRotates : Prop :=
  (Reads .ed [0x6F] .rld ∧ ∀ s : State, ∃ (t : State) (m : Byte), exec .rld s = .next t ∧
    t = { s with af := t.af, mem := t.mem, wz := s.hl + 1, tacts := s.tacts + (18 - 8) } ∧
    s.Stores t [(s.hl, m)] ∧
    m.toNat = (s.read8 s.hl).toNat % 16 * 16 + (s.reg8 .a).toNat % 16 ∧
    (t.reg8 .a).toNat = (s.reg8 .a).toNat / 16 * 16 + (s.read8 s.hl).toNat / 16 ∧
    t.flags.ShowsByte (t.reg8 .a) ∧ t.flags.h = false ∧ t.flags.pv = evenOnes (t.reg8 .a) ∧ t.flags.n = false ∧
    t.flags.c = s.flags.c) ∧
  (Reads .ed [0x67] .rrd ∧ ∀ s : State, ∃ (t : State) (m : Byte), exec .rrd s = .next t ∧
    t = { s with af := t.af, mem := t.mem, wz := s.hl + 1, tacts := s.tacts + (18 - 8) } ∧
    s.Stores t [(s.hl, m)] ∧
    m.toNat = (s.reg8 .a).toNat % 16 * 16 + (s.read8 s.hl).toNat / 16 ∧
    (t.reg8 .a).toNat = (s.reg8 .a).toNat / 16 * 16 + (s.read8 s.hl).toNat % 16 ∧
    t.flags.ShowsByte (t.reg8 .a) ∧ t.flags.h = false ∧ t.flags.pv = evenOnes (t.reg8 .a) ∧ t.flags.n = false ∧
    t.flags.c = s.flags.c)

/-! ### Bit test, reset and set (46_bit.md) -/

/-- R400 to R402: BIT writes flags alone. Y and X come from the tested register, from W, or from the high byte of the address. -/
def Obligations.BitTests : Prop :=
  (∀ (b : Oct) (r : Reg8), Reads .cb [opcode 0x40 (octVal b) (regNumber r)] (.bitR b r) ∧
    ∀ s : State, ∃ t : State, exec (.bitR b r) s = .next t ∧ t = { s with af := t.af, tacts := s.tacts + (8 - 8) } ∧
      t.reg8 .a = s.reg8 .a ∧
      t.flags = { s.flags with
                  z := !(s.reg8 r).getLsbD (octVal b), pv := !(s.reg8 r).getLsbD (octVal b)
                  s := decide (b = .o7) && (s.reg8 r).getLsbD 7, h := true, n := false
                  y := (s.reg8 r).getLsbD 5, x := (s.reg8 r).getLsbD 3 }) ∧
  (∀ b : Oct, Reads .cb [opcode 0x40 (octVal b) 6] (.bitIndHl b) ∧
    ∀ s : State, ∃ t : State, exec (.bitIndHl b) s = .next t ∧ t = { s with af := t.af, tacts := s.tacts + (12 - 8) } ∧
      t.reg8 .a = s.reg8 .a ∧
      t.flags = { s.flags with
                  z := !(s.read8 s.hl).getLsbD (octVal b), pv := !(s.read8 s.hl).getLsbD (octVal b)
                  s := decide (b = .o7) && (s.read8 s.hl).getLsbD 7, h := true, n := false
                  y := (hi s.wz).getLsbD 5, x := (hi s.wz).getLsbD 3 }) ∧
  (∀ (x : Index) (d : Byte) (b z : Oct), Reads (.indexCb x) [d, opcode 0x40 (octVal b) (octVal z)] (.bitIdx x d b z) ∧
    ∀ s : State, let ea := s.index x + d.signExtend 16
      ∃ t : State, exec (.bitIdx x d b z) s = .next t ∧ t = { s with af := t.af, wz := ea, tacts := s.tacts + (20 - 8) } ∧
      t.reg8 .a = s.reg8 .a ∧
      t.flags = { s.flags with
                  z := !(s.read8 ea).getLsbD (octVal b), pv := !(s.read8 ea).getLsbD (octVal b)
                  s := decide (b = .o7) && (s.read8 ea).getLsbD 7, h := true, n := false
                  y := (hi ea).getLsbD 5, x := (hi ea).getLsbD 3 })

/-- R403 to R408: RES and SET change one bit of the byte, in their four forms, and no flag. -/
def Obligations.BitResetAndSet : Prop :=
  ∀ (b : Oct) (f : CbForm), Reads f.context (f.bytes 0x80 (octVal b)) (resInstr b f) ∧
    Reads f.context (f.bytes 0xC0 (octVal b)) (setInstr b f) ∧
    ∀ e ∈ [(resInstr b f, false), (setInstr b f, true)], ∀ s : State, ∃ (t : State) (res : Byte), exec e.1 s = .next t ∧
      t = { s with
            af := t.af, bc := t.bc, de := t.de, hl := t.hl, mem := t.mem, wz := f.wz s, tacts := s.tacts + f.tacts } ∧
      t.f = s.f ∧
      (∀ k : Nat, k < 8 → res.getLsbD k = if k = octVal b then e.2 else (f.operand s).getLsbD k) ∧
      (∀ q : Reg8, t.reg8 q = if f.register = some q then res else s.reg8 q) ∧
      s.Stores t ((f.address s).toList.map fun a => (a, res))

/-! ### Jumps, calls and returns (47_control.md) -/

/-- R420, R421, R425, R426: the absolute jumps. `JP cc,nn` sets WZ in either case; `JP (HL)` and `JP (IXY)` keep it. -/
def Obligations.AbsoluteJumps : Prop :=
  (∀ l h : Byte, Reads .plain [0xC3, l, h] (.jpNn (word h l))) ∧
  (∀ (nn : Word) (s : State), exec (.jpNn nn) s = .next { s with pc := nn, wz := nn, tacts := s.tacts + (10 - 4) }) ∧
  (∀ (cc : Cond) (l h : Byte), Reads .plain [opcode 0xC2 (condNumber cc) 0, l, h] (.jpCcNn cc (word h l))) ∧
  (∀ (cc : Cond) (nn : Word) (s : State), exec (.jpCcNn cc nn) s = .next
    { s with pc := if condHolds s.flags cc = true then nn else s.pc, wz := nn, tacts := s.tacts + (10 - 4) }) ∧
  (Reads .plain [0xE9] .jpIndHl ∧ ∀ s : State, exec .jpIndHl s = .next { s with pc := s.hl, tacts := s.tacts + (4 - 4) }) ∧
  (∀ x : Index, Reads (.index x) [0xE9] (.jpX x) ∧
    ∀ s : State, exec (.jpX x) s = .next { s with pc := s.index x, tacts := s.tacts + (8 - 8) })

/-- R422 to R424: the relative jumps, from the address after the instruction; not taken, they keep WZ. DJNZ changes no flag. -/
def Obligations.RelativeJumps : Prop :=
  (∀ e : Byte, Reads .plain [0x18, e] (.jr e) ∧ ∀ s : State, ∃ t : State, exec (.jr e) s = .next t ∧
    t = { s with pc := t.pc, wz := t.pc, tacts := s.tacts + (12 - 4) } ∧
    (t.pc.toNat : Int) = (s.pc.toNat + e.toInt) % 2 ^ 16) ∧
  (∀ (cc : JrCond) (e : Byte), Reads .plain [opcode 0x20 (jrCondNumber cc) 0, e] (.jrCc cc e) ∧
    ∀ s : State, ∃ t : State, exec (.jrCc cc e) s = .next t ∧
      if jrCondHolds s.flags cc = true then
        t = { s with pc := t.pc, wz := t.pc, tacts := s.tacts + (12 - 4) } ∧ (t.pc.toNat : Int) = (s.pc.toNat + e.toInt) % 2 ^ 16
      else t = { s with tacts := s.tacts + (7 - 4) }) ∧
  (∀ e : Byte, Reads .plain [0x10, e] (.djnz e) ∧ ∀ s : State, ∃ t : State, exec (.djnz e) s = .next t ∧
    t.reg8 .b = s.reg8 .b - 1 ∧ t.reg8 .c = s.reg8 .c ∧
    if s.reg8 .b = 1 then t = { s with bc := t.bc, tacts := s.tacts + (8 - 4) }
    else t = { s with bc := t.bc, pc := t.pc, wz := t.pc, tacts := s.tacts + (13 - 4) } ∧
      (t.pc.toNat : Int) = (s.pc.toNat + e.toInt) % 2 ^ 16)

/-- R427, R428, R433: CALL, `CALL cc` and RST push the address after the instruction. `CALL cc` sets WZ in either case. -/
def Obligations.CallsAndRestarts : Prop :=
  (∀ l h : Byte, Reads .plain [0xCD, l, h] (.callNn (word h l))) ∧
  (∀ (nn : Word) (s : State), ∃ t : State, exec (.callNn nn) s = .next t ∧
    t = { s with mem := t.mem, sp := s.sp - 2, pc := nn, wz := nn, tacts := s.tacts + (17 - 4) } ∧
    s.Stores t [(s.sp - 1, hi s.pc), (s.sp - 2, lo s.pc)]) ∧
  (∀ (cc : Cond) (l h : Byte), Reads .plain [opcode 0xC4 (condNumber cc) 0, l, h] (.callCcNn cc (word h l))) ∧
  (∀ (cc : Cond) (nn : Word) (s : State), ∃ t : State, exec (.callCcNn cc nn) s = .next t ∧
    if condHolds s.flags cc = true then
      t = { s with mem := t.mem, sp := s.sp - 2, pc := nn, wz := nn, tacts := s.tacts + (17 - 4) } ∧
      s.Stores t [(s.sp - 1, hi s.pc), (s.sp - 2, lo s.pc)]
    else t = { s with wz := nn, tacts := s.tacts + (10 - 4) }) ∧
  (∀ y : Oct, Reads .plain [opcode 0xC7 (octVal y) 0] (.rst y) ∧ ∀ s : State, ∃ t : State, exec (.rst y) s = .next t ∧
    t = { s with mem := t.mem, sp := s.sp - 2, pc := BitVec.ofNat 16 (octVal y * 8), wz := BitVec.ofNat 16 (octVal y * 8)
                 tacts := s.tacts + (11 - 4) } ∧
    s.Stores t [(s.sp - 1, hi s.pc), (s.sp - 2, lo s.pc)])

/-- R429 to R432: RET, `RET cc`, RETI and RETN. The last two restore IFF1 from IFF2. -/
def Obligations.Returns : Prop :=
  (Reads .plain [0xC9] .ret ∧ ∀ s : State, ∃ t : State, exec .ret s = .next t ∧
    t = { s with sp := s.sp + 2, pc := t.pc, wz := t.pc, tacts := s.tacts + (10 - 4) } ∧
    lo t.pc = s.read8 s.sp ∧ hi t.pc = s.read8 (s.sp + 1)) ∧
  (∀ cc : Cond, Reads .plain [opcode 0xC0 (condNumber cc) 0] (.retCc cc) ∧ ∀ s : State, ∃ t : State, exec (.retCc cc) s = .next t ∧
    if condHolds s.flags cc = true then
      t = { s with sp := s.sp + 2, pc := t.pc, wz := t.pc, tacts := s.tacts + (11 - 4) } ∧
      lo t.pc = s.read8 s.sp ∧ hi t.pc = s.read8 (s.sp + 1)
    else t = { s with tacts := s.tacts + (5 - 4) }) ∧
  Reads .ed [0x4D] .reti ∧
  (∀ y : Oct, y ≠ .o1 → Reads .ed [opcode 0x45 (octVal y) 0] (.retn y)) ∧
  ∀ y : Oct, ∀ i ∈ [Instr.reti, .retn y], ∀ s : State, ∃ t : State, exec i s = .next t ∧
    t = { s with sp := s.sp + 2, pc := t.pc, wz := t.pc, iff1 := s.iff2, tacts := s.tacts + (14 - 8) } ∧
    lo t.pc = s.read8 s.sp ∧ hi t.pc = s.read8 (s.sp + 1)

/-! ### Input and output (48_io.md) -/

/-- R460, R462, R463: IN. The byte is the port's next draw, whatever it is. The model's choice in it: a draw is the head of the queue
`portIn`, else a free value, and a counter of draws advances (log entry 3, DESIGN CHOICE). -/
def Obligations.PortInput : Prop :=
  (∀ n : Byte, Reads .plain [0xDB, n] (.inAIndN n) ∧ ∀ s : State, ∃ t : State, exec (.inAIndN n) s = .next t ∧
    t = { s with
          af := t.af, wz := word (s.reg8 .a) n + 1, portIn := s.portIn.tail, draws := s.draws + 1
          tacts := s.tacts + (11 - 4) } ∧
    t.f = s.f ∧ t.reg8 .a = s.portByte (word (s.reg8 .a) n)) ∧
  (∀ r : Reg8, Reads .ed [opcode 0x40 (regNumber r) 0] (.inRIndC r)) ∧ Reads .ed [0x70] .inIndC ∧
  ∀ r : Reg8, ∀ e ∈ [(Instr.inIndC, none), (.inRIndC r, some r)], ∀ s : State,
    ∃ t : State, exec e.1 s = .next t ∧
      t = { s with
            af := t.af, bc := t.bc, de := t.de, hl := t.hl, wz := s.bc + 1
            portIn := s.portIn.tail, draws := s.draws + 1, tacts := s.tacts + (12 - 8) } ∧
      (∀ q : Reg8, t.reg8 q = if e.2 = some q then s.portByte s.bc else s.reg8 q) ∧
      t.flags.ShowsByte (s.portByte s.bc) ∧ t.flags.h = false ∧ t.flags.pv = evenOnes (s.portByte s.bc) ∧ t.flags.n = false ∧
      t.flags.c = s.flags.c

/-- R461, R464, R465: OUT is an event, and changes WZ alone; Z of `OUT (n),A` wraps with no carry into W. The model's choice in it: the
event is recorded at the end of the list `portOut` (log entry 8, DESIGN CHOICE). -/
def Obligations.PortOutput : Prop :=
  (∀ n : Byte, Reads .plain [0xD3, n] (.outIndNA n) ∧ ∀ s : State, ∃ t : State, exec (.outIndNA n) s = .next t ∧
    t = { s with portOut := s.portOut ++ [(word (s.reg8 .a) n, s.reg8 .a)], wz := t.wz, tacts := s.tacts + (11 - 4) } ∧
    hi t.wz = s.reg8 .a ∧ lo t.wz = n + 1) ∧
  (∀ r : Reg8, Reads .ed [opcode 0x41 (regNumber r) 0] (.outIndCR r) ∧ ∀ s : State, exec (.outIndCR r) s = .next
    { s with portOut := s.portOut ++ [(s.bc, s.reg8 r)], wz := s.bc + 1, tacts := s.tacts + (12 - 8) }) ∧
  (Reads .ed [0x71] .outIndC0 ∧ ∀ s : State, exec .outIndC0 s = .next
    { s with portOut := s.portOut ++ [(s.bc, 0x00)], wz := s.bc + 1, tacts := s.tacts + (12 - 8) })

/-- R466 to R470, R288: INI, IND and their repeating forms. The port is BC before B is decremented. The model's choice in it: a draw is
the head of the queue `portIn`, else a free value, and a counter of draws advances (log entry 3, DESIGN CHOICE). -/
def Obligations.BlockInput : Prop :=
  Reads .ed [0xA2] .ini ∧ Reads .ed [0xAA] .ind ∧ Reads .ed [0xB2] .inir ∧ Reads .ed [0xBA] .indr ∧
  ∀ e ∈ [(Instr.ini, (1 : Word), (1 : Byte), false), (.ind, -1, -1, false), (.inir, 1, 1, true), (.indr, -1, -1, true)],
    ∀ s : State, let v := s.portByte s.bc; let b := s.reg8 .b - 1; let k := v.toNat + (s.reg8 .c + e.2.2.1).toNat
    ∃ t : State, exec e.1 s = .next t ∧
      t = { s with
            mem := t.mem, bc := t.bc, af := t.af, hl := s.hl + e.2.1, portIn := s.portIn.tail, draws := s.draws + 1
            pc := if e.2.2.2 = true ∧ b ≠ 0 then s.pc - 2 else s.pc
            wz := if e.2.2.2 = true ∧ b ≠ 0 then s.pc - 2 + 1 else s.bc + e.2.1
            tacts := s.tacts + ((if e.2.2.2 = true ∧ b ≠ 0 then 21 else 16) - 8) } ∧
      s.Stores t [(s.hl, v)] ∧
      t.reg8 .b = b ∧ t.reg8 .c = s.reg8 .c ∧ t.reg8 .a = s.reg8 .a ∧
      t.flags.ShowsByte b ∧ t.flags.n = v.getLsbD 7 ∧ t.flags.h = decide (k > 0xFF) ∧ t.flags.c = decide (k > 0xFF) ∧
      t.flags.pv = evenOnes ((BitVec.ofNat 8 k &&& 0x07) ^^^ b)

/-- R466, R471 to R474, R288: OUTI, OUTD and their repeating forms. The port is BC after B is decremented. The model's choice in it: the
event is recorded at the end of the list `portOut` (log entry 8, DESIGN CHOICE). -/
def Obligations.BlockOutput : Prop :=
  Reads .ed [0xA3] .outi ∧ Reads .ed [0xAB] .outd ∧ Reads .ed [0xB3] .otir ∧ Reads .ed [0xBB] .otdr ∧
  ∀ e ∈ [(Instr.outi, (1 : Word), false), (.outd, -1, false), (.otir, 1, true), (.otdr, -1, true)],
    ∀ s : State, let v := s.read8 s.hl; let b := s.reg8 .b - 1; let k := v.toNat + (lo (s.hl + e.2.1)).toNat
    ∃ t : State, exec e.1 s = .next t ∧
      t = { s with
            bc := t.bc, af := t.af, hl := s.hl + e.2.1, portOut := s.portOut ++ [(word b (s.reg8 .c), v)]
            pc := if e.2.2 = true ∧ b ≠ 0 then s.pc - 2 else s.pc
            wz := if e.2.2 = true ∧ b ≠ 0 then s.pc - 2 + 1 else word b (s.reg8 .c) + e.2.1
            tacts := s.tacts + ((if e.2.2 = true ∧ b ≠ 0 then 21 else 16) - 8) } ∧
      t.reg8 .b = b ∧ t.reg8 .c = s.reg8 .c ∧ t.reg8 .a = s.reg8 .a ∧
      t.flags.ShowsByte b ∧ t.flags.n = v.getLsbD 7 ∧ t.flags.h = decide (k > 0xFF) ∧ t.flags.c = decide (k > 0xFF) ∧
      t.flags.pv = evenOnes ((BitVec.ofNat 8 k &&& 0x07) ^^^ b)

/-! ### CPU control and the prefix steps (49_cpu_control.md) -/

/-- R490 to R497: NOP, HALT, DI, EI, the interrupt modes, and the undefined ED opcodes, which are no-operations. -/
def Obligations.CpuControl : Prop :=
  (Reads .plain [0x00] .nop ∧ ∀ s : State, exec .nop s = .next s) ∧
  (Reads .plain [0x76] .halt ∧ ∀ s : State, exec .halt s = .next { s with halted := true }) ∧
  (Reads .plain [0xF3] .di ∧ ∀ s : State, exec .di s = .next { s with iff1 := false, iff2 := false }) ∧
  (Reads .plain [0xFB] .ei ∧ ∀ s : State, exec .ei s = .next { s with iff1 := true, iff2 := true, blocked := true }) ∧
  (∀ y ∈ [Oct.o0, .o1, .o4, .o5], Reads .ed [opcode 0x46 (octVal y) 0] (.im0 y) ∧
    ∀ s : State, exec (.im0 y) s = .next { s with im := .im0 }) ∧
  (∀ y ∈ [Oct.o2, .o6], Reads .ed [opcode 0x46 (octVal y) 0] (.im1 y) ∧
    ∀ s : State, exec (.im1 y) s = .next { s with im := .im1 }) ∧
  (∀ y ∈ [Oct.o3, .o7], Reads .ed [opcode 0x46 (octVal y) 0] (.im2 y) ∧
    ∀ s : State, exec (.im2 y) s = .next { s with im := .im2 }) ∧
  (∀ op : Byte, undefinedEd op = true → Reads .ed [op] (.nopEd op) ∧ ∀ s : State, exec (.nopEd op) s = .next s)

/-- R498 to R501, R114: the prefix steps: DD and FD select the index mode, the later one winning; CB keeps it; ED cancels it. -/
def Obligations.PrefixSteps : Prop :=
  (Reads .plain [0xDD] .ddPrefix ∧ ∀ s : State, exec .ddPrefix s = .next { s with indexMode := some .ix }) ∧
  (Reads .plain [0xFD] .fdPrefix ∧ ∀ s : State, exec .fdPrefix s = .next { s with indexMode := some .iy }) ∧
  (Reads .plain [0xCB] .cbPrefix ∧ ∀ s : State, exec .cbPrefix s = .next { s with prefixMode := .bit }) ∧
  (Reads .plain [0xED] .edPrefix ∧ ∀ s : State, exec .edPrefix s = .next { s with prefixMode := .extended, indexMode := none }) ∧
  ∀ x : Index,
    (Reads (.index x) [0xDD] (.ddPrefixX x) ∧ ∀ s : State, exec (.ddPrefixX x) s = .next { s with indexMode := some .ix }) ∧
    (Reads (.index x) [0xFD] (.fdPrefixX x) ∧ ∀ s : State, exec (.fdPrefixX x) s = .next { s with indexMode := some .iy }) ∧
    (Reads (.index x) [0xCB] (.cbPrefixX x) ∧ ∀ s : State, exec (.cbPrefixX x) s = .next { s with prefixMode := .bit }) ∧
    (Reads (.index x) [0xED] (.edPrefixX x) ∧
      ∀ s : State, exec (.edPrefixX x) s = .next { s with prefixMode := .extended, indexMode := none })
end

