-- ==== Sys2Proof/Laws/Bits.lean ====
section
/-! SUPPORT. Halves and words. -/

namespace Sys2Proof.Machine

open Sys2Proof

/-- A bit of `h:l`. -/
theorem getLsbD_word (h l : Byte) (k : Nat) : (word h l).getLsbD k = if k < 8 then l.getLsbD k else h.getLsbD (k - 8) :=
  BitVec.getLsbD_append

@[simp] theorem hi_word (h l : Byte) : hi (word h l) = h :=
  BitVec.eq_of_getLsbD_eq fun k hk => by simp [hi, getLsbD_word, hk]

@[simp] theorem lo_word (h l : Byte) : lo (word h l) = l :=
  BitVec.eq_of_getLsbD_eq fun k hk => by simp [lo, getLsbD_word, hk]

@[simp] theorem word_hi_lo (w : Word) : word (hi w) (lo w) = w :=
  BitVec.eq_of_getLsbD_eq fun k hk => by
    rw [getLsbD_word]
    split
    · simp [lo, *]
    · have h8 : k - 8 < 8 := by omega
      have hs : 8 + (k - 8) = k := by omega
      simp [hi, h8, hs]

/-- A word is its two halves. -/
theorem word_eq_iff (w : Word) (h l : Byte) : w = word h l ↔ hi w = h ∧ lo w = l := by
  constructor
  · rintro rfl; simp
  · rintro ⟨rfl, rfl⟩; simp

/-- Two words are equal where both halves are. -/
theorem word_ext (v w : Word) (hh : hi v = hi w) (hl : lo v = lo w) : v = w := by
  rw [← word_hi_lo v, ← word_hi_lo w, hh, hl]

theorem toNat_hi (w : Word) : (hi w).toNat = w.toNat / 256 := by
  have := w.isLt
  simp only [hi, BitVec.extractLsb'_toNat, Nat.shiftRight_eq_div_pow]; omega

theorem toNat_lo (w : Word) : (lo w).toNat = w.toNat % 256 := by
  simp [lo, BitVec.extractLsb'_toNat]

theorem toNat_word (h l : Byte) : (word h l).toNat = h.toNat * 256 + l.toNat := by
  have h1 := toNat_hi (word h l)
  have h2 := toNat_lo (word h l)
  rw [hi_word] at h1
  rw [lo_word] at h2
  omega

theorem toNat_lowDigit (v : Byte) : (lowDigit v).toNat = v.toNat % 16 := by
  simp [lowDigit, BitVec.extractLsb'_toNat]

theorem toNat_highDigit (v : Byte) : (highDigit v).toNat = v.toNat / 16 := by
  have := v.isLt
  simp only [highDigit, BitVec.extractLsb'_toNat, Nat.shiftRight_eq_div_pow]; omega

/-- Bits 6 to 0 of `inc7` count modulo 128, and bit 7 is kept (00_scope.md R15). -/
theorem inc7_spec (r : Byte) : (inc7 r).toNat % 128 = (r.toNat + 1) % 128 ∧ (inc7 r).getLsbD 7 = r.getLsbD 7 := by
  revert r; decide +kernel

end Sys2Proof.Machine
end

