-- ==== Sys2Proof/Laws/Memory.lean ====
section
/-! SUPPORT. Memory: a read after a write in a cell and through the collaborator, the canonical form, what a list of writes leaves, and
the stores of one and two bytes as such lists. -/

namespace Sys2Proof.Machine

open Sys2Proof

/-! ### Cells -/

theorem Memory.read_without (m : Memory) (a b : Nat) :
    Memory.read (Memory.without m a) b = if b = a then Memory.unlisted else Memory.read m b := by
  induction m with
  | nil => simp [Memory.without, Memory.read]
  | cons c rest ih =>
    obtain ⟨k, w⟩ := c
    by_cases hk : k = a
    · subst hk
      have hw : Memory.without ((k, w) :: rest) k = Memory.without rest k := by simp [Memory.without]
      rw [hw, ih]
      by_cases hb : b = k
      · simp [hb]
      · simp [Memory.read, hb, Ne.symm hb]
    · have hw : Memory.without ((k, w) :: rest) a = (k, w) :: Memory.without rest a := by simp [Memory.without, hk]
      rw [hw]
      simp only [Memory.read, ih]
      by_cases hb : k = b
      · subst hb; simp [hk]
      · simp [hb]

theorem Memory.read_insertCell (m : Memory) (a b : Nat) (v : Byte) (h : ∀ c ∈ m, c.1 ≠ a) :
    Memory.read (Memory.insertCell m a v) b = if b = a then v else Memory.read m b := by
  induction m with
  | nil => by_cases hb : b = a <;> simp [Memory.insertCell, Memory.read, hb, Ne.symm]
  | cons c rest ih =>
    obtain ⟨k, w⟩ := c
    have hk : k ≠ a := h (k, w) (by simp)
    have ih' := ih fun c hc => h c (by simp [hc])
    simp only [Memory.insertCell]
    split
    · simp only [Memory.read, ih']
      by_cases hb : k = b
      · subst hb; simp [hk]
      · simp [hb]
    · by_cases hb : b = a
      · subst hb; simp [Memory.read]
      · simp [Memory.read, hb, Ne.symm hb]

/-- A read after a write: the byte written at its address, the old byte at any other. -/
theorem Memory.read_write (m : Memory) (a b : Nat) (v : Byte) :
    Memory.read (Memory.write m a v) b = if b = a then v else Memory.read m b := by
  unfold Memory.write
  split
  · subst v; rw [Memory.read_without]
  · rw [Memory.read_insertCell _ _ _ _ (by simp [Memory.without]), Memory.read_without]
    by_cases hb : b = a <;> simp [hb]

/-! ### The canonical form -/

theorem Memory.wfFrom_mono {low low' : Nat} {m : Memory} (h : Memory.wfFrom low m = true) (hl : low' ≤ low) :
    Memory.wfFrom low' m = true := by
  cases m with
  | nil => rfl
  | cons c rest =>
    obtain ⟨k, w⟩ := c
    simp only [Memory.wfFrom, Bool.and_eq_true, decide_eq_true_eq] at h ⊢
    exact ⟨⟨by omega, h.1.2⟩, h.2⟩

theorem Memory.wfFrom_without {low : Nat} {m : Memory} (a : Nat) (h : Memory.wfFrom low m = true) :
    Memory.wfFrom low (Memory.without m a) = true := by
  induction m generalizing low with
  | nil => rfl
  | cons c rest ih =>
    obtain ⟨k, w⟩ := c
    simp only [Memory.wfFrom, Bool.and_eq_true, decide_eq_true_eq] at h
    by_cases hk : k = a
    · have hw : Memory.without ((k, w) :: rest) a = Memory.without rest a := by simp [Memory.without, hk]
      rw [hw]
      exact ih (Memory.wfFrom_mono h.2 (by omega))
    · have hw : Memory.without ((k, w) :: rest) a = (k, w) :: Memory.without rest a := by simp [Memory.without, hk]
      simp only [hw, Memory.wfFrom, Bool.and_eq_true, decide_eq_true_eq]
      exact ⟨h.1, ih h.2⟩

theorem Memory.wfFrom_insertCell {low : Nat} {m : Memory} {a : Nat} {v : Byte} (h : Memory.wfFrom low m = true)
    (hl : low ≤ a) (hv : v ≠ Memory.unlisted) (hn : ∀ c ∈ m, c.1 ≠ a) :
    Memory.wfFrom low (Memory.insertCell m a v) = true := by
  induction m generalizing low with
  | nil => simp [Memory.insertCell, Memory.wfFrom, hl, hv]
  | cons c rest ih =>
    obtain ⟨k, w⟩ := c
    have hk : k ≠ a := hn (k, w) (by simp)
    simp only [Memory.wfFrom, Bool.and_eq_true, decide_eq_true_eq] at h
    simp only [Memory.insertCell]
    split
    · simp only [Memory.wfFrom, Bool.and_eq_true, decide_eq_true_eq]
      exact ⟨h.1, ih h.2 (by omega) fun c hc => hn c (by simp [hc])⟩
    · simp only [Memory.wfFrom, Bool.and_eq_true, decide_eq_true_eq, bne_iff_ne]
      exact ⟨⟨hl, hv⟩, ⟨by omega, by simpa using h.1.2⟩, h.2⟩

/-- A write of a cell keeps the canonical form. -/
@[simp] theorem Memory.wf_write {m : Memory} (a : Nat) (v : Byte) (h : Memory.wf m = true) :
    Memory.wf (Memory.write m a v) = true := by
  unfold Memory.wf Memory.write
  split
  · exact Memory.wfFrom_without a h
  · exact Memory.wfFrom_insertCell (Memory.wfFrom_without a h) (Nat.zero_le _) ‹_› (by simp [Memory.without])

theorem Memory.mem_insertCell {m : Memory} {a : Nat} {v : Byte} {c : Host.Cell} (h : c ∈ Memory.insertCell m a v) :
    c = (a, v) ∨ c ∈ m := by
  induction m with
  | nil => simpa [Memory.insertCell] using h
  | cons d rest ih =>
    simp only [Memory.insertCell] at h
    split at h
    · rcases List.mem_cons.mp h with rfl | h
      · simp
      · rcases ih h with h | h <;> simp [h]
    · simpa using h

/-- A write adds no cell but its own. -/
theorem Memory.mem_write {m : Memory} {a : Nat} {v : Byte} {c : Host.Cell} (h : c ∈ Memory.write m a v) : c.1 = a ∨ c ∈ m := by
  unfold Memory.write at h
  split at h
  · exact .inr (List.mem_filter.mp h).1
  · rcases Memory.mem_insertCell h with rfl | h
    · exact .inl rfl
    · exact .inr (List.mem_filter.mp h).1

/-! ### The collaborator -/

namespace MemoryCollaborator

variable (m : MemoryCollaborator)

@[simp] theorem load_fields (a : Word) (v : Byte) :
    (m.load a v).cells = m.cells.write (m.cell a) v ∧ (m.load a v).windows = m.windows ∧ (m.load a v).switches = m.switches :=
  ⟨rfl, rfl, rfl⟩

@[simp] theorem write_fields (a : Word) (v : Byte) :
    (m.write a v).cells = (if m.writable a = true then m.cells.write (m.cell a) v else m.cells) ∧
    (m.write a v).windows = m.windowsAfter a v ∧ (m.write a v).switches = m.switches := by
  unfold MemoryCollaborator.write; split <;> and_intros <;> rfl

/-- A collaborator with the same windows names the same cells, and the same of them can be written. -/
theorem cell_eq {m n : MemoryCollaborator} (h : m.windows = n.windows) (a : Word) :
    m.cell a = n.cell a ∧ m.writable a = n.writable a := by
  simp only [cell, writable, windowAt, h, and_self]

/-- A write keeps the windows, unless there are switches. -/
theorem windowsAfter_eq {m : MemoryCollaborator} (h : m.switches = []) (a : Word) (v : Byte) : m.windowsAfter a v = m.windows := by
  simp [windowsAfter, h]

/-- A read after a load: the byte loaded wherever its cell is named, the old byte elsewhere. -/
theorem read_load (a b : Word) (v : Byte) : (m.load a v).read b = if m.cell b = m.cell a then v else m.read b := by
  rw [read, (cell_eq (show (m.load a v).windows = m.windows from rfl) b).1, (m.load_fields a v).1, Memory.read_write]; rfl

/-- A read after a write, the windows staying as they are: the byte written wherever the write reaches, the old byte elsewhere. -/
theorem read_write {m : MemoryCollaborator} (h : m.switches = []) (a b : Word) (v : Byte) :
    (m.write a v).read b = if (m.writable a && m.cell a == m.cell b) = true then v else m.read b := by
  have hw : (m.write a v).windows = m.windows := by simp [windowsAfter_eq h]
  rw [read, (cell_eq hw b).1, (m.write_fields a v).1]
  cases m.writable a
  · simp [read]
  · by_cases hc : m.cell b = m.cell a
    · simp [Memory.read_write, hc]
    · simp [Memory.read_write, read, hc, Ne.symm hc]

/-- A read after a list of writes, the windows staying as they are: the byte of the last write that reaches it, else the old byte. -/
theorem read_writeAll {m : MemoryCollaborator} (h : m.switches = []) (ws : List (Word × Byte)) (b : Word) :
    (m.writeAll ws).read b =
      ws.foldl (fun v w => if (m.writable w.1 && m.cell w.1 == m.cell b) = true then w.2 else v) (m.read b) := by
  induction ws generalizing m with
  | nil => rfl
  | cons w ws ih =>
    have hc := cell_eq (show (m.write w.1 w.2).windows = m.windows by simp [windowsAfter_eq h])
    have := ih (m := m.write w.1 w.2) (by simp [h])
    simpa only [writeAll, List.foldl_cons, hc, read_write h] using this

/-! #### `FlatRam` -/

theorem flatRam_wf : (flatRam []).wf = true := rfl

theorem isFlat_iff : m.isFlat = true ↔ m.windows = [] ∧ m.switches = [] := by
  simp [isFlat]

/-- Under `FlatRam` an address is its own cell and can be written (20_memory.md R83). -/
theorem flat_cell {m : MemoryCollaborator} (h : m.isFlat = true) (a : Word) : m.cell a = a.toNat ∧ m.writable a = true := by
  simp [cell, writable, windowAt, (m.isFlat_iff.mp h).1]

/-- Under `FlatRam` a read after a write is the byte written at its address, and the old byte at any other (20_memory.md R83). -/
theorem flat_read_write {m : MemoryCollaborator} (h : m.isFlat = true) (a b : Word) (v : Byte) :
    (m.write a v).read b = if b = a then v else m.read b := by
  rw [read_write (m.isFlat_iff.mp h).2, (flat_cell h a).2, (flat_cell h a).1, (flat_cell h b).1]
  by_cases hb : b = a <;> simp [hb, BitVec.toNat_inj, Ne.symm]

/-! #### The canonical form -/

/-- A load and a write keep whether the collaborator is `FlatRam`. -/
theorem write_isFlat (a : Word) (v : Byte) : (m.write a v).isFlat = m.isFlat := by
  cases hs : m.switches with
  | nil => simp [isFlat, hs, windowsAfter_eq hs]
  | cons => simp [isFlat, hs]

theorem wf_load {m : MemoryCollaborator} (a : Word) (v : Byte) (h : m.wf = true) : (m.load a v).wf = true := by
  simp only [wf, Bool.and_eq_true, Bool.or_eq_true, Bool.not_eq_true', List.all_eq_true, decide_eq_true_eq] at h ⊢
  refine ⟨by simp [h.1], ?_⟩
  rcases h.2 with hf | hb
  · exact .inl hf
  · cases hf : m.isFlat with
    | false => exact .inl hf
    | true =>
      refine .inr fun c hc => ?_
      rcases Memory.mem_write hc with he | he
      · rw [he, (flat_cell hf a).1]; exact a.isLt
      · exact hb c he

/-- A write keeps the canonical form. -/
theorem wf_write {m : MemoryCollaborator} (a : Word) (v : Byte) (h : m.wf = true) : (m.write a v).wf = true := by
  have hl := wf_load a v h
  simp only [wf, write_isFlat] at h hl ⊢
  rw [(m.write_fields a v).1]
  split
  · exact hl
  · exact h

theorem wf_writeAll {m : MemoryCollaborator} (ws : List (Word × Byte)) (h : m.wf = true) : (m.writeAll ws).wf = true := by
  induction ws generalizing m with
  | nil => exact h
  | cons w ws ih => exact ih (wf_write w.1 w.2 h)

end MemoryCollaborator

/-- Memory after power-up is in its canonical form. -/
theorem reset_mem_wf : State.reset.mem.wf = true := rfl

/-! ### Stores of the state -/

/-- Under `FlatRam` a write reaches its own address alone. -/
theorem State.flat_reaches {s : State} (h : s.mem.isFlat = true) (a b : Word) : s.reaches a b = (a == b) := by
  rw [State.reaches, (MemoryCollaborator.flat_cell h a).2, (MemoryCollaborator.flat_cell h a).1, (MemoryCollaborator.flat_cell h b).1]
  by_cases hb : a = b <;> simp [hb, BitVec.toNat_inj]

/-- With windows, but no switch, each byte reads as the last write that reaches it left it. -/
theorem State.read8_of_writeAll {s t : State} {ws : List (Word × Byte)} (ht : t.mem = s.mem.writeAll ws) (h : s.mem.switches = [])
    (b : Word) : t.read8 b = lastWritten (fun a => s.reaches a b) (s.read8 b) ws := by
  rw [State.read8, ht]; exact MemoryCollaborator.read_writeAll h ws b

/-- All that `State.Stores` says follows from its first part. -/
theorem State.stores_of_mem {s t : State} {ws : List (Word × Byte)} (ht : t.mem = s.mem.writeAll ws) : s.Stores t ws :=
  ⟨ht, fun h b => by rw [State.read8_of_writeAll ht (s.mem.isFlat_iff.mp h).2 b]; simp only [State.flat_reaches h]⟩

/-- No write. -/
theorem State.stores_nil {s t : State} : s.Stores t [] ↔ t.mem = s.mem := by
  exact ⟨fun h => h.memory, fun h => State.stores_of_mem h⟩

/-- One write. -/
theorem State.stores_write8 (s : State) (a : Word) (v : Byte) : s.Stores (s.write8 a v) [(a, v)] := State.stores_of_mem rfl

/-- A 16-bit store: the low byte at `a`, then the high byte at `a + 1` (20_memory.md R84). -/
theorem State.stores_write16 (s : State) (a v : Word) : s.Stores (s.write16 a v) [(a, lo v), (a + 1, hi v)] := State.stores_of_mem rfl

/-- A push: the high byte at SP - 1, then the low byte at SP - 2 (00_scope.md R14). -/
theorem State.stores_push16 (s : State) (v : Word) : s.Stores (s.push16 v) [(s.sp - 1, hi v), (s.sp - 2, lo v)] := by
  have h : s.sp - 2 = s.sp - 1 - 1 := by bv_omega
  exact State.stores_of_mem (by rw [h]; rfl)

/-- EX (SP),v: the high byte at SP + 1, then the low byte at SP (20_memory.md R84). -/
theorem State.stores_replaceTop (s : State) (v : Word) : s.Stores (s.replaceTop v) [(s.sp + 1, hi v), (s.sp, lo v)] :=
  State.stores_of_mem rfl

/-- A 16-bit load (20_memory.md R84). -/
@[simp] theorem State.lo_read16 (s : State) (a : Word) : lo (s.read16 a) = s.read8 a := by simp [State.read16]

@[simp] theorem State.hi_read16 (s : State) (a : Word) : hi (s.read16 a) = s.read8 (a + 1) := by simp [State.read16]

/-- Under `FlatRam`, a 16-bit load of what a 16-bit store left. -/
theorem State.read16_write16 (s : State) (h : s.mem.isFlat = true) (a v : Word) : (s.write16 a v).read16 a = v := by
  have hb := (State.stores_write16 s a v).flat h
  apply word_ext <;> simp [hb, lastWritten]

end Sys2Proof.Machine
end

