-- ==== Sys2Proof/Laws/Registers.lean ====
section
/-! SUPPORT. Registers, pairs, index halves and flags: what a write leaves to be read under every name. -/

namespace Sys2Proof.Machine

open Sys2Proof

variable (s : State)

/-! ### 8-bit registers (10_state.md R30) -/

@[simp] theorem reg8_setReg8 (q r : Reg8) (v : Byte) : (s.setReg8 r v).reg8 q = if q = r then v else s.reg8 q := by
  cases r <;> cases q <;> simp [State.reg8, State.setReg8]

@[simp] theorem f_setReg8 (r : Reg8) (v : Byte) : (s.setReg8 r v).f = s.f := by
  cases r <;> simp [State.f, State.setReg8]

@[simp] theorem flags_setReg8 (r : Reg8) (v : Byte) : (s.setReg8 r v).flags = s.flags := by
  simp only [State.flags, f_setReg8]

/-- A is the high byte of AF. -/
theorem a_eq_reg8 : s.a = s.reg8 .a := rfl

@[simp] theorem read8_setReg8 (r : Reg8) (v : Byte) (a : Word) : (s.setReg8 r v).read8 a = s.read8 a := by
  cases r <;> rfl

/-! ### Pairs and index registers -/

@[simp] theorem pair_setPair (p q : Pair) (v : Word) : (s.setPair p v).pair q = if q = p then v else s.pair q := by
  cases p <;> cases q <;> rfl

@[simp] theorem stackPair_setStackPair (p q : StackPair) (v : Word) :
    (s.setStackPair p v).stackPair q = if q = p then v else s.stackPair q := by
  cases p <;> cases q <;> rfl

@[simp] theorem index_setIndex (x y : Index) (v : Word) : (s.setIndex x v).index y = if y = x then v else s.index y := by
  cases x <;> cases y <;> rfl

@[simp] theorem indexHalf_setIndexHalf (x y : Index) (p q : Half) (v : Byte) :
    (s.setIndexHalf x p v).indexHalf y q = if y = x ∧ q = p then v else s.indexHalf y q := by
  cases x <;> cases y <;> cases p <;> cases q <;> simp [State.indexHalf, State.setIndexHalf]

@[simp] theorem index_setIndexHalf (x y : Index) (p : Half) (v : Byte) (h : y ≠ x) :
    (s.setIndexHalf x p v).index y = s.index y := by
  cases x <;> cases y <;> cases p <;> simp_all [State.setIndexHalf, State.index, State.setIndex]

@[simp] theorem reg8x_setReg8x (x : Index) (q r : Reg8) (v : Byte) :
    (s.setReg8x x r v).reg8x x q = if q = r then v else s.reg8x x q := by
  cases x <;> cases r <;> cases q <;>
    simp [State.reg8x, State.setReg8x, State.setReg8, State.reg8, State.setIndexHalf, State.indexHalf, State.setIndex, State.index]

/-! ### Flags (10_state.md R40) -/

@[simp] theorem unpack_pack (g : Flags) : unpackFlags (packFlags g) = g := by
  obtain ⟨a, b, c, d, e, f, h, i⟩ := g
  cases a <;> cases b <;> cases c <;> cases d <;> cases e <;> cases f <;> cases h <;> cases i <;> rfl

@[simp] theorem pack_unpack (f : Byte) : packFlags (unpackFlags f) = f := by
  revert f; decide +kernel

@[simp] theorem flags_setFlags (g : Flags) : (s.setFlags g).flags = g := by
  simp [State.flags, State.f, State.setFlags]

@[simp] theorem reg8_setFlags (g : Flags) (q : Reg8) : (s.setFlags g).reg8 q = s.reg8 q := by
  cases q <;> simp [State.setFlags, State.reg8, State.a]

@[simp] theorem flags_setAF (v : Byte × Flags) : (s.setAF v).flags = v.2 := by
  simp [State.flags, State.f, State.setAF]

@[simp] theorem reg8_setAF (v : Byte × Flags) (q : Reg8) : (s.setAF v).reg8 q = if q = .a then v.1 else s.reg8 q := by
  cases q <;> simp [State.setAF, State.reg8]

/-- The conditions of R124 are those of the eight flags. -/
theorem holds_eq_flag (cc : Cond) : s.holds cc =
    match cc with
    | .nz => !s.flags.z | .z => s.flags.z | .nc => !s.flags.c | .c => s.flags.c
    | .po => !s.flags.pv | .pe => s.flags.pv | .p => !s.flags.s | .m => s.flags.s := by
  cases cc <;> rfl

/-- The conditions of a JR are those of the flags Z and C. -/
theorem holdsJr_eq_flag (cc : JrCond) : s.holdsJr cc =
    match cc with
    | .nz => !s.flags.z | .z => s.flags.z | .nc => !s.flags.c | .c => s.flags.c := by
  cases cc <;> rfl

end Sys2Proof.Machine
end

