-- ==== Sys2Proof/Laws/State.lean ====
section
/-! SUPPORT. What each named update of the state does to each field: one lemma per update, a conjunction over the fields, true by
`rfl` or by the cases of its operand, so that no later proof unfolds a record update. -/

namespace Sys2Proof.Machine

open Sys2Proof

variable (s : State)

@[simp] theorem spend_fields (n : Nat) :
    (s.spend n).af = s.af ∧ (s.spend n).bc = s.bc ∧ (s.spend n).de = s.de ∧ (s.spend n).hl = s.hl ∧
    (s.spend n).afShadow = s.afShadow ∧ (s.spend n).bcShadow = s.bcShadow ∧ (s.spend n).deShadow = s.deShadow ∧
    (s.spend n).hlShadow = s.hlShadow ∧ (s.spend n).ix = s.ix ∧ (s.spend n).iy = s.iy ∧ (s.spend n).sp = s.sp ∧
    (s.spend n).pc = s.pc ∧ (s.spend n).wz = s.wz ∧ (s.spend n).i = s.i ∧ (s.spend n).r = s.r ∧ (s.spend n).iff1 = s.iff1 ∧
    (s.spend n).iff2 = s.iff2 ∧ (s.spend n).im = s.im ∧ (s.spend n).halted = s.halted ∧ (s.spend n).blocked = s.blocked ∧
    (s.spend n).prefixMode = s.prefixMode ∧ (s.spend n).indexMode = s.indexMode ∧ (s.spend n).resetPending = s.resetPending ∧
    (s.spend n).nmiPending = s.nmiPending ∧ (s.spend n).intLine = s.intLine ∧ (s.spend n).tacts = s.tacts + n ∧
    (s.spend n).tactWidth = s.tactWidth ∧ (s.spend n).mem = s.mem ∧ (s.spend n).portOut = s.portOut ∧
    (s.spend n).portIn = s.portIn ∧ (s.spend n).busVector = s.busVector ∧ (s.spend n).contention = s.contention ∧
    (s.spend n).draws = s.draws ∧ (s.spend n).failure = s.failure := by and_intros <;> rfl

@[simp] theorem write8_fields (a : Word) (v : Byte) :
    (s.write8 a v).af = s.af ∧ (s.write8 a v).bc = s.bc ∧ (s.write8 a v).de = s.de ∧ (s.write8 a v).hl = s.hl ∧
    (s.write8 a v).afShadow = s.afShadow ∧ (s.write8 a v).bcShadow = s.bcShadow ∧ (s.write8 a v).deShadow = s.deShadow ∧
    (s.write8 a v).hlShadow = s.hlShadow ∧ (s.write8 a v).ix = s.ix ∧ (s.write8 a v).iy = s.iy ∧ (s.write8 a v).sp = s.sp ∧
    (s.write8 a v).pc = s.pc ∧ (s.write8 a v).wz = s.wz ∧ (s.write8 a v).i = s.i ∧ (s.write8 a v).r = s.r ∧
    (s.write8 a v).iff1 = s.iff1 ∧ (s.write8 a v).iff2 = s.iff2 ∧ (s.write8 a v).im = s.im ∧ (s.write8 a v).halted = s.halted ∧
    (s.write8 a v).blocked = s.blocked ∧ (s.write8 a v).prefixMode = s.prefixMode ∧ (s.write8 a v).indexMode = s.indexMode ∧
    (s.write8 a v).resetPending = s.resetPending ∧ (s.write8 a v).nmiPending = s.nmiPending ∧
    (s.write8 a v).intLine = s.intLine ∧ (s.write8 a v).tacts = s.tacts ∧ (s.write8 a v).tactWidth = s.tactWidth ∧
    (s.write8 a v).mem = s.mem.write a v ∧ (s.write8 a v).portOut = s.portOut ∧ (s.write8 a v).portIn = s.portIn ∧
    (s.write8 a v).busVector = s.busVector ∧ (s.write8 a v).contention = s.contention ∧ (s.write8 a v).draws = s.draws ∧
    (s.write8 a v).failure = s.failure := by and_intros <;> rfl

@[simp] theorem load8_fields (a : Word) (v : Byte) :
    (s.load8 a v).af = s.af ∧ (s.load8 a v).bc = s.bc ∧ (s.load8 a v).de = s.de ∧ (s.load8 a v).hl = s.hl ∧
    (s.load8 a v).afShadow = s.afShadow ∧ (s.load8 a v).bcShadow = s.bcShadow ∧ (s.load8 a v).deShadow = s.deShadow ∧
    (s.load8 a v).hlShadow = s.hlShadow ∧ (s.load8 a v).ix = s.ix ∧ (s.load8 a v).iy = s.iy ∧ (s.load8 a v).sp = s.sp ∧
    (s.load8 a v).pc = s.pc ∧ (s.load8 a v).wz = s.wz ∧ (s.load8 a v).i = s.i ∧ (s.load8 a v).r = s.r ∧
    (s.load8 a v).iff1 = s.iff1 ∧ (s.load8 a v).iff2 = s.iff2 ∧ (s.load8 a v).im = s.im ∧ (s.load8 a v).halted = s.halted ∧
    (s.load8 a v).blocked = s.blocked ∧ (s.load8 a v).prefixMode = s.prefixMode ∧ (s.load8 a v).indexMode = s.indexMode ∧
    (s.load8 a v).resetPending = s.resetPending ∧ (s.load8 a v).nmiPending = s.nmiPending ∧ (s.load8 a v).intLine = s.intLine ∧
    (s.load8 a v).tacts = s.tacts ∧ (s.load8 a v).tactWidth = s.tactWidth ∧ (s.load8 a v).mem = s.mem.load a v ∧
    (s.load8 a v).portOut = s.portOut ∧ (s.load8 a v).portIn = s.portIn ∧ (s.load8 a v).busVector = s.busVector ∧
    (s.load8 a v).contention = s.contention ∧ (s.load8 a v).draws = s.draws ∧ (s.load8 a v).failure = s.failure := by and_intros <;> rfl

@[simp] theorem write16_fields (a v : Word) :
    (s.write16 a v).af = s.af ∧ (s.write16 a v).bc = s.bc ∧ (s.write16 a v).de = s.de ∧ (s.write16 a v).hl = s.hl ∧
    (s.write16 a v).afShadow = s.afShadow ∧ (s.write16 a v).bcShadow = s.bcShadow ∧ (s.write16 a v).deShadow = s.deShadow ∧
    (s.write16 a v).hlShadow = s.hlShadow ∧ (s.write16 a v).ix = s.ix ∧ (s.write16 a v).iy = s.iy ∧ (s.write16 a v).sp = s.sp ∧
    (s.write16 a v).pc = s.pc ∧ (s.write16 a v).wz = s.wz ∧ (s.write16 a v).i = s.i ∧ (s.write16 a v).r = s.r ∧
    (s.write16 a v).iff1 = s.iff1 ∧ (s.write16 a v).iff2 = s.iff2 ∧ (s.write16 a v).im = s.im ∧
    (s.write16 a v).halted = s.halted ∧ (s.write16 a v).blocked = s.blocked ∧ (s.write16 a v).prefixMode = s.prefixMode ∧
    (s.write16 a v).indexMode = s.indexMode ∧ (s.write16 a v).resetPending = s.resetPending ∧
    (s.write16 a v).nmiPending = s.nmiPending ∧ (s.write16 a v).intLine = s.intLine ∧ (s.write16 a v).tacts = s.tacts ∧
    (s.write16 a v).tactWidth = s.tactWidth ∧ (s.write16 a v).mem = (s.mem.write a (lo v)).write (a + 1) (hi v) ∧
    (s.write16 a v).portOut = s.portOut ∧ (s.write16 a v).portIn = s.portIn ∧ (s.write16 a v).busVector = s.busVector ∧
    (s.write16 a v).contention = s.contention ∧ (s.write16 a v).draws = s.draws ∧ (s.write16 a v).failure = s.failure := by and_intros <;> rfl

@[simp] theorem push16_fields (v : Word) :
    (s.push16 v).af = s.af ∧ (s.push16 v).bc = s.bc ∧ (s.push16 v).de = s.de ∧ (s.push16 v).hl = s.hl ∧
    (s.push16 v).afShadow = s.afShadow ∧ (s.push16 v).bcShadow = s.bcShadow ∧ (s.push16 v).deShadow = s.deShadow ∧
    (s.push16 v).hlShadow = s.hlShadow ∧ (s.push16 v).ix = s.ix ∧ (s.push16 v).iy = s.iy ∧ (s.push16 v).sp = s.sp - 2 ∧
    (s.push16 v).pc = s.pc ∧ (s.push16 v).wz = s.wz ∧ (s.push16 v).i = s.i ∧ (s.push16 v).r = s.r ∧ (s.push16 v).iff1 = s.iff1 ∧
    (s.push16 v).iff2 = s.iff2 ∧ (s.push16 v).im = s.im ∧ (s.push16 v).halted = s.halted ∧ (s.push16 v).blocked = s.blocked ∧
    (s.push16 v).prefixMode = s.prefixMode ∧ (s.push16 v).indexMode = s.indexMode ∧ (s.push16 v).resetPending = s.resetPending ∧
    (s.push16 v).nmiPending = s.nmiPending ∧ (s.push16 v).intLine = s.intLine ∧ (s.push16 v).tacts = s.tacts ∧
    (s.push16 v).tactWidth = s.tactWidth ∧ (s.push16 v).mem = (s.mem.write (s.sp - 1) (hi v)).write (s.sp - 2) (lo v) ∧
    (s.push16 v).portOut = s.portOut ∧ (s.push16 v).portIn = s.portIn ∧ (s.push16 v).busVector = s.busVector ∧
    (s.push16 v).contention = s.contention ∧ (s.push16 v).draws = s.draws ∧ (s.push16 v).failure = s.failure := by
  have h : s.sp - 1 - 1 = s.sp - 2 := by bv_omega
  simp only [State.push16, State.write8, h, and_self]

@[simp] theorem dropped16_fields :
    (s.dropped16).af = s.af ∧ (s.dropped16).bc = s.bc ∧ (s.dropped16).de = s.de ∧ (s.dropped16).hl = s.hl ∧
    (s.dropped16).afShadow = s.afShadow ∧ (s.dropped16).bcShadow = s.bcShadow ∧ (s.dropped16).deShadow = s.deShadow ∧
    (s.dropped16).hlShadow = s.hlShadow ∧ (s.dropped16).ix = s.ix ∧ (s.dropped16).iy = s.iy ∧ (s.dropped16).sp = s.sp + 2 ∧
    (s.dropped16).pc = s.pc ∧ (s.dropped16).wz = s.wz ∧ (s.dropped16).i = s.i ∧ (s.dropped16).r = s.r ∧
    (s.dropped16).iff1 = s.iff1 ∧ (s.dropped16).iff2 = s.iff2 ∧ (s.dropped16).im = s.im ∧ (s.dropped16).halted = s.halted ∧
    (s.dropped16).blocked = s.blocked ∧ (s.dropped16).prefixMode = s.prefixMode ∧ (s.dropped16).indexMode = s.indexMode ∧
    (s.dropped16).resetPending = s.resetPending ∧ (s.dropped16).nmiPending = s.nmiPending ∧ (s.dropped16).intLine = s.intLine ∧
    (s.dropped16).tacts = s.tacts ∧ (s.dropped16).tactWidth = s.tactWidth ∧ (s.dropped16).mem = s.mem ∧
    (s.dropped16).portOut = s.portOut ∧ (s.dropped16).portIn = s.portIn ∧ (s.dropped16).busVector = s.busVector ∧
    (s.dropped16).contention = s.contention ∧ (s.dropped16).draws = s.draws ∧ (s.dropped16).failure = s.failure := by and_intros <;> rfl

@[simp] theorem replaceTop_fields (v : Word) :
    (s.replaceTop v).af = s.af ∧ (s.replaceTop v).bc = s.bc ∧ (s.replaceTop v).de = s.de ∧ (s.replaceTop v).hl = s.hl ∧
    (s.replaceTop v).afShadow = s.afShadow ∧ (s.replaceTop v).bcShadow = s.bcShadow ∧ (s.replaceTop v).deShadow = s.deShadow ∧
    (s.replaceTop v).hlShadow = s.hlShadow ∧ (s.replaceTop v).ix = s.ix ∧ (s.replaceTop v).iy = s.iy ∧
    (s.replaceTop v).sp = s.sp ∧ (s.replaceTop v).pc = s.pc ∧ (s.replaceTop v).wz = s.wz ∧ (s.replaceTop v).i = s.i ∧
    (s.replaceTop v).r = s.r ∧ (s.replaceTop v).iff1 = s.iff1 ∧ (s.replaceTop v).iff2 = s.iff2 ∧ (s.replaceTop v).im = s.im ∧
    (s.replaceTop v).halted = s.halted ∧ (s.replaceTop v).blocked = s.blocked ∧ (s.replaceTop v).prefixMode = s.prefixMode ∧
    (s.replaceTop v).indexMode = s.indexMode ∧ (s.replaceTop v).resetPending = s.resetPending ∧
    (s.replaceTop v).nmiPending = s.nmiPending ∧ (s.replaceTop v).intLine = s.intLine ∧ (s.replaceTop v).tacts = s.tacts ∧
    (s.replaceTop v).tactWidth = s.tactWidth ∧ (s.replaceTop v).mem = (s.mem.write (s.sp + 1) (hi v)).write s.sp (lo v) ∧
    (s.replaceTop v).portOut = s.portOut ∧ (s.replaceTop v).portIn = s.portIn ∧ (s.replaceTop v).busVector = s.busVector ∧
    (s.replaceTop v).contention = s.contention ∧ (s.replaceTop v).draws = s.draws ∧ (s.replaceTop v).failure = s.failure := by and_intros <;> rfl

@[simp] theorem portDrawn_fields :
    (s.portDrawn).af = s.af ∧ (s.portDrawn).bc = s.bc ∧ (s.portDrawn).de = s.de ∧ (s.portDrawn).hl = s.hl ∧
    (s.portDrawn).afShadow = s.afShadow ∧ (s.portDrawn).bcShadow = s.bcShadow ∧ (s.portDrawn).deShadow = s.deShadow ∧
    (s.portDrawn).hlShadow = s.hlShadow ∧ (s.portDrawn).ix = s.ix ∧ (s.portDrawn).iy = s.iy ∧ (s.portDrawn).sp = s.sp ∧
    (s.portDrawn).pc = s.pc ∧ (s.portDrawn).wz = s.wz ∧ (s.portDrawn).i = s.i ∧ (s.portDrawn).r = s.r ∧
    (s.portDrawn).iff1 = s.iff1 ∧ (s.portDrawn).iff2 = s.iff2 ∧ (s.portDrawn).im = s.im ∧ (s.portDrawn).halted = s.halted ∧
    (s.portDrawn).blocked = s.blocked ∧ (s.portDrawn).prefixMode = s.prefixMode ∧ (s.portDrawn).indexMode = s.indexMode ∧
    (s.portDrawn).resetPending = s.resetPending ∧ (s.portDrawn).nmiPending = s.nmiPending ∧ (s.portDrawn).intLine = s.intLine ∧
    (s.portDrawn).tacts = s.tacts ∧ (s.portDrawn).tactWidth = s.tactWidth ∧ (s.portDrawn).mem = s.mem ∧
    (s.portDrawn).portOut = s.portOut ∧ (s.portDrawn).portIn = s.portIn.tail ∧ (s.portDrawn).busVector = s.busVector ∧
    (s.portDrawn).contention = s.contention ∧ (s.portDrawn).draws = s.draws + 1 ∧ (s.portDrawn).failure = s.failure := by and_intros <;> rfl

@[simp] theorem portWrite_fields (p : Word) (v : Byte) :
    (s.portWrite p v).af = s.af ∧ (s.portWrite p v).bc = s.bc ∧ (s.portWrite p v).de = s.de ∧ (s.portWrite p v).hl = s.hl ∧
    (s.portWrite p v).afShadow = s.afShadow ∧ (s.portWrite p v).bcShadow = s.bcShadow ∧
    (s.portWrite p v).deShadow = s.deShadow ∧ (s.portWrite p v).hlShadow = s.hlShadow ∧ (s.portWrite p v).ix = s.ix ∧
    (s.portWrite p v).iy = s.iy ∧ (s.portWrite p v).sp = s.sp ∧ (s.portWrite p v).pc = s.pc ∧ (s.portWrite p v).wz = s.wz ∧
    (s.portWrite p v).i = s.i ∧ (s.portWrite p v).r = s.r ∧ (s.portWrite p v).iff1 = s.iff1 ∧ (s.portWrite p v).iff2 = s.iff2 ∧
    (s.portWrite p v).im = s.im ∧ (s.portWrite p v).halted = s.halted ∧ (s.portWrite p v).blocked = s.blocked ∧
    (s.portWrite p v).prefixMode = s.prefixMode ∧ (s.portWrite p v).indexMode = s.indexMode ∧
    (s.portWrite p v).resetPending = s.resetPending ∧ (s.portWrite p v).nmiPending = s.nmiPending ∧
    (s.portWrite p v).intLine = s.intLine ∧ (s.portWrite p v).tacts = s.tacts ∧ (s.portWrite p v).tactWidth = s.tactWidth ∧
    (s.portWrite p v).mem = s.mem ∧ (s.portWrite p v).portOut = s.portOut ++ [(p, v)] ∧ (s.portWrite p v).portIn = s.portIn ∧
    (s.portWrite p v).busVector = s.busVector ∧ (s.portWrite p v).contention = s.contention ∧
    (s.portWrite p v).draws = s.draws ∧ (s.portWrite p v).failure = s.failure := by and_intros <;> rfl

@[simp] theorem busDrawn_fields :
    (s.busDrawn).af = s.af ∧ (s.busDrawn).bc = s.bc ∧ (s.busDrawn).de = s.de ∧ (s.busDrawn).hl = s.hl ∧
    (s.busDrawn).afShadow = s.afShadow ∧ (s.busDrawn).bcShadow = s.bcShadow ∧ (s.busDrawn).deShadow = s.deShadow ∧
    (s.busDrawn).hlShadow = s.hlShadow ∧ (s.busDrawn).ix = s.ix ∧ (s.busDrawn).iy = s.iy ∧ (s.busDrawn).sp = s.sp ∧
    (s.busDrawn).pc = s.pc ∧ (s.busDrawn).wz = s.wz ∧ (s.busDrawn).i = s.i ∧ (s.busDrawn).r = s.r ∧ (s.busDrawn).iff1 = s.iff1 ∧
    (s.busDrawn).iff2 = s.iff2 ∧ (s.busDrawn).im = s.im ∧ (s.busDrawn).halted = s.halted ∧ (s.busDrawn).blocked = s.blocked ∧
    (s.busDrawn).prefixMode = s.prefixMode ∧ (s.busDrawn).indexMode = s.indexMode ∧ (s.busDrawn).resetPending = s.resetPending ∧
    (s.busDrawn).nmiPending = s.nmiPending ∧ (s.busDrawn).intLine = s.intLine ∧ (s.busDrawn).tacts = s.tacts ∧
    (s.busDrawn).tactWidth = s.tactWidth ∧ (s.busDrawn).mem = s.mem ∧ (s.busDrawn).portOut = s.portOut ∧
    (s.busDrawn).portIn = s.portIn ∧ (s.busDrawn).busVector = s.busVector.tail ∧ (s.busDrawn).contention = s.contention ∧
    (s.busDrawn).draws = s.draws + 1 ∧ (s.busDrawn).failure = s.failure := by and_intros <;> rfl

@[simp] theorem contend_fields (x : Access) :
    (s.contend x).af = s.af ∧ (s.contend x).bc = s.bc ∧ (s.contend x).de = s.de ∧ (s.contend x).hl = s.hl ∧
    (s.contend x).afShadow = s.afShadow ∧ (s.contend x).bcShadow = s.bcShadow ∧ (s.contend x).deShadow = s.deShadow ∧
    (s.contend x).hlShadow = s.hlShadow ∧ (s.contend x).ix = s.ix ∧ (s.contend x).iy = s.iy ∧ (s.contend x).sp = s.sp ∧
    (s.contend x).pc = s.pc ∧ (s.contend x).wz = s.wz ∧ (s.contend x).i = s.i ∧ (s.contend x).r = s.r ∧
    (s.contend x).iff1 = s.iff1 ∧ (s.contend x).iff2 = s.iff2 ∧ (s.contend x).im = s.im ∧ (s.contend x).halted = s.halted ∧
    (s.contend x).blocked = s.blocked ∧ (s.contend x).prefixMode = s.prefixMode ∧ (s.contend x).indexMode = s.indexMode ∧
    (s.contend x).resetPending = s.resetPending ∧ (s.contend x).nmiPending = s.nmiPending ∧ (s.contend x).intLine = s.intLine ∧
    (s.contend x).tactWidth = s.tactWidth ∧ (s.contend x).mem = s.mem ∧ (s.contend x).portOut = s.portOut ∧
    (s.contend x).portIn = s.portIn ∧ (s.contend x).busVector = s.busVector ∧ (s.contend x).draws = s.draws ∧
    (s.contend x).failure = s.failure := by unfold State.contend; split <;> and_intros <;> rfl

@[simp] theorem contended_fields (xs : List Access) :
    (s.contended xs).af = s.af ∧ (s.contended xs).bc = s.bc ∧ (s.contended xs).de = s.de ∧ (s.contended xs).hl = s.hl ∧
    (s.contended xs).afShadow = s.afShadow ∧ (s.contended xs).bcShadow = s.bcShadow ∧ (s.contended xs).deShadow = s.deShadow ∧
    (s.contended xs).hlShadow = s.hlShadow ∧ (s.contended xs).ix = s.ix ∧ (s.contended xs).iy = s.iy ∧
    (s.contended xs).sp = s.sp ∧ (s.contended xs).pc = s.pc ∧ (s.contended xs).wz = s.wz ∧ (s.contended xs).i = s.i ∧
    (s.contended xs).r = s.r ∧ (s.contended xs).iff1 = s.iff1 ∧ (s.contended xs).iff2 = s.iff2 ∧ (s.contended xs).im = s.im ∧
    (s.contended xs).halted = s.halted ∧ (s.contended xs).blocked = s.blocked ∧ (s.contended xs).prefixMode = s.prefixMode ∧
    (s.contended xs).indexMode = s.indexMode ∧ (s.contended xs).resetPending = s.resetPending ∧
    (s.contended xs).nmiPending = s.nmiPending ∧ (s.contended xs).intLine = s.intLine ∧
    (s.contended xs).tactWidth = s.tactWidth ∧ (s.contended xs).mem = s.mem ∧ (s.contended xs).portOut = s.portOut ∧
    (s.contended xs).portIn = s.portIn ∧ (s.contended xs).busVector = s.busVector ∧ (s.contended xs).draws = s.draws ∧
    (s.contended xs).failure = s.failure := by
  induction xs generalizing s with
  | nil => and_intros <;> rfl
  | cons x xs ih => simpa only [State.contended, List.foldl_cons, contend_fields] using ih (s.contend x)

@[simp] theorem opcodeStarted_fields :
    (s.opcodeStarted).af = s.af ∧ (s.opcodeStarted).bc = s.bc ∧ (s.opcodeStarted).de = s.de ∧ (s.opcodeStarted).hl = s.hl ∧
    (s.opcodeStarted).afShadow = s.afShadow ∧ (s.opcodeStarted).bcShadow = s.bcShadow ∧
    (s.opcodeStarted).deShadow = s.deShadow ∧ (s.opcodeStarted).hlShadow = s.hlShadow ∧ (s.opcodeStarted).ix = s.ix ∧
    (s.opcodeStarted).iy = s.iy ∧ (s.opcodeStarted).sp = s.sp ∧ (s.opcodeStarted).pc = s.pc ∧ (s.opcodeStarted).wz = s.wz ∧
    (s.opcodeStarted).i = s.i ∧ (s.opcodeStarted).r = s.r ∧ (s.opcodeStarted).iff1 = s.iff1 ∧ (s.opcodeStarted).iff2 = s.iff2 ∧
    (s.opcodeStarted).im = s.im ∧ (s.opcodeStarted).halted = s.halted ∧ (s.opcodeStarted).blocked = false ∧
    (s.opcodeStarted).prefixMode = .plain ∧ (s.opcodeStarted).indexMode = none ∧
    (s.opcodeStarted).resetPending = s.resetPending ∧ (s.opcodeStarted).nmiPending = s.nmiPending ∧
    (s.opcodeStarted).intLine = s.intLine ∧ (s.opcodeStarted).tacts = s.tacts ∧ (s.opcodeStarted).tactWidth = s.tactWidth ∧
    (s.opcodeStarted).mem = s.mem ∧ (s.opcodeStarted).portOut = s.portOut ∧ (s.opcodeStarted).portIn = s.portIn ∧
    (s.opcodeStarted).busVector = s.busVector ∧ (s.opcodeStarted).contention = s.contention ∧
    (s.opcodeStarted).draws = s.draws ∧ (s.opcodeStarted).failure = s.failure := by and_intros <;> rfl

@[simp] theorem fetched_fields (n : Nat) :
    (s.fetched n).af = s.af ∧ (s.fetched n).bc = s.bc ∧ (s.fetched n).de = s.de ∧ (s.fetched n).hl = s.hl ∧
    (s.fetched n).afShadow = s.afShadow ∧ (s.fetched n).bcShadow = s.bcShadow ∧ (s.fetched n).deShadow = s.deShadow ∧
    (s.fetched n).hlShadow = s.hlShadow ∧ (s.fetched n).ix = s.ix ∧ (s.fetched n).iy = s.iy ∧ (s.fetched n).sp = s.sp ∧
    (s.fetched n).pc = s.pc + BitVec.ofNat 16 n ∧ (s.fetched n).wz = s.wz ∧ (s.fetched n).i = s.i ∧
    (s.fetched n).iff1 = s.iff1 ∧ (s.fetched n).iff2 = s.iff2 ∧ (s.fetched n).im = s.im ∧ (s.fetched n).halted = s.halted ∧
    (s.fetched n).blocked = s.blocked ∧ (s.fetched n).prefixMode = s.prefixMode ∧ (s.fetched n).indexMode = s.indexMode ∧
    (s.fetched n).resetPending = s.resetPending ∧ (s.fetched n).nmiPending = s.nmiPending ∧ (s.fetched n).intLine = s.intLine ∧
    (s.fetched n).tactWidth = s.tactWidth ∧ (s.fetched n).mem = s.mem ∧ (s.fetched n).portOut = s.portOut ∧
    (s.fetched n).portIn = s.portIn ∧ (s.fetched n).busVector = s.busVector ∧ (s.fetched n).contention = s.contention ∧
    (s.fetched n).draws = s.draws ∧ (s.fetched n).failure = s.failure := by unfold State.fetched; split <;> and_intros <;> rfl

@[simp] theorem repeatInstr_fields :
    (s.repeatInstr).af = s.af ∧ (s.repeatInstr).bc = s.bc ∧ (s.repeatInstr).de = s.de ∧ (s.repeatInstr).hl = s.hl ∧
    (s.repeatInstr).afShadow = s.afShadow ∧ (s.repeatInstr).bcShadow = s.bcShadow ∧ (s.repeatInstr).deShadow = s.deShadow ∧
    (s.repeatInstr).hlShadow = s.hlShadow ∧ (s.repeatInstr).ix = s.ix ∧ (s.repeatInstr).iy = s.iy ∧ (s.repeatInstr).sp = s.sp ∧
    (s.repeatInstr).pc = s.pc - 2 ∧ (s.repeatInstr).wz = s.pc - 1 ∧ (s.repeatInstr).i = s.i ∧ (s.repeatInstr).r = s.r ∧
    (s.repeatInstr).iff1 = s.iff1 ∧ (s.repeatInstr).iff2 = s.iff2 ∧ (s.repeatInstr).im = s.im ∧
    (s.repeatInstr).halted = s.halted ∧ (s.repeatInstr).blocked = s.blocked ∧ (s.repeatInstr).prefixMode = s.prefixMode ∧
    (s.repeatInstr).indexMode = s.indexMode ∧ (s.repeatInstr).resetPending = s.resetPending ∧
    (s.repeatInstr).nmiPending = s.nmiPending ∧ (s.repeatInstr).intLine = s.intLine ∧ (s.repeatInstr).tacts = s.tacts + 5 ∧
    (s.repeatInstr).tactWidth = s.tactWidth ∧ (s.repeatInstr).mem = s.mem ∧ (s.repeatInstr).portOut = s.portOut ∧
    (s.repeatInstr).portIn = s.portIn ∧ (s.repeatInstr).busVector = s.busVector ∧ (s.repeatInstr).contention = s.contention ∧
    (s.repeatInstr).draws = s.draws ∧ (s.repeatInstr).failure = s.failure := by and_intros <;> rfl

@[simp] theorem repeatIf_fields (b : Bool) :
    (s.repeatIf b).af = s.af ∧ (s.repeatIf b).bc = s.bc ∧ (s.repeatIf b).de = s.de ∧ (s.repeatIf b).hl = s.hl ∧
    (s.repeatIf b).afShadow = s.afShadow ∧ (s.repeatIf b).bcShadow = s.bcShadow ∧ (s.repeatIf b).deShadow = s.deShadow ∧
    (s.repeatIf b).hlShadow = s.hlShadow ∧ (s.repeatIf b).ix = s.ix ∧ (s.repeatIf b).iy = s.iy ∧ (s.repeatIf b).sp = s.sp ∧
    (s.repeatIf b).pc = (if b = true then s.pc - 2 else s.pc) ∧ (s.repeatIf b).wz = (if b = true then s.pc - 1 else s.wz) ∧
    (s.repeatIf b).i = s.i ∧ (s.repeatIf b).r = s.r ∧ (s.repeatIf b).iff1 = s.iff1 ∧ (s.repeatIf b).iff2 = s.iff2 ∧
    (s.repeatIf b).im = s.im ∧ (s.repeatIf b).halted = s.halted ∧ (s.repeatIf b).blocked = s.blocked ∧
    (s.repeatIf b).prefixMode = s.prefixMode ∧ (s.repeatIf b).indexMode = s.indexMode ∧
    (s.repeatIf b).resetPending = s.resetPending ∧ (s.repeatIf b).nmiPending = s.nmiPending ∧
    (s.repeatIf b).intLine = s.intLine ∧ (s.repeatIf b).tacts = s.tacts + (if b = true then 5 else 0) ∧
    (s.repeatIf b).tactWidth = s.tactWidth ∧ (s.repeatIf b).mem = s.mem ∧ (s.repeatIf b).portOut = s.portOut ∧
    (s.repeatIf b).portIn = s.portIn ∧ (s.repeatIf b).busVector = s.busVector ∧ (s.repeatIf b).contention = s.contention ∧
    (s.repeatIf b).draws = s.draws ∧ (s.repeatIf b).failure = s.failure := by cases b <;> and_intros <;> rfl

@[simp] theorem goTo_fields (a : Word) :
    (s.goTo a).af = s.af ∧ (s.goTo a).bc = s.bc ∧ (s.goTo a).de = s.de ∧ (s.goTo a).hl = s.hl ∧
    (s.goTo a).afShadow = s.afShadow ∧ (s.goTo a).bcShadow = s.bcShadow ∧ (s.goTo a).deShadow = s.deShadow ∧
    (s.goTo a).hlShadow = s.hlShadow ∧ (s.goTo a).ix = s.ix ∧ (s.goTo a).iy = s.iy ∧ (s.goTo a).sp = s.sp ∧ (s.goTo a).pc = a ∧
    (s.goTo a).wz = a ∧ (s.goTo a).i = s.i ∧ (s.goTo a).r = s.r ∧ (s.goTo a).iff1 = s.iff1 ∧ (s.goTo a).iff2 = s.iff2 ∧
    (s.goTo a).im = s.im ∧ (s.goTo a).halted = s.halted ∧ (s.goTo a).blocked = s.blocked ∧
    (s.goTo a).prefixMode = s.prefixMode ∧ (s.goTo a).indexMode = s.indexMode ∧ (s.goTo a).resetPending = s.resetPending ∧
    (s.goTo a).nmiPending = s.nmiPending ∧ (s.goTo a).intLine = s.intLine ∧ (s.goTo a).tacts = s.tacts ∧
    (s.goTo a).tactWidth = s.tactWidth ∧ (s.goTo a).mem = s.mem ∧ (s.goTo a).portOut = s.portOut ∧
    (s.goTo a).portIn = s.portIn ∧ (s.goTo a).busVector = s.busVector ∧ (s.goTo a).contention = s.contention ∧
    (s.goTo a).draws = s.draws ∧ (s.goTo a).failure = s.failure := by and_intros <;> rfl

@[simp] theorem latchNext_fields (a : Word) :
    (s.latchNext a).af = s.af ∧ (s.latchNext a).bc = s.bc ∧ (s.latchNext a).de = s.de ∧ (s.latchNext a).hl = s.hl ∧
    (s.latchNext a).afShadow = s.afShadow ∧ (s.latchNext a).bcShadow = s.bcShadow ∧ (s.latchNext a).deShadow = s.deShadow ∧
    (s.latchNext a).hlShadow = s.hlShadow ∧ (s.latchNext a).ix = s.ix ∧ (s.latchNext a).iy = s.iy ∧ (s.latchNext a).sp = s.sp ∧
    (s.latchNext a).pc = s.pc ∧ (s.latchNext a).wz = a + 1 ∧ (s.latchNext a).i = s.i ∧ (s.latchNext a).r = s.r ∧
    (s.latchNext a).iff1 = s.iff1 ∧ (s.latchNext a).iff2 = s.iff2 ∧ (s.latchNext a).im = s.im ∧
    (s.latchNext a).halted = s.halted ∧ (s.latchNext a).blocked = s.blocked ∧ (s.latchNext a).prefixMode = s.prefixMode ∧
    (s.latchNext a).indexMode = s.indexMode ∧ (s.latchNext a).resetPending = s.resetPending ∧
    (s.latchNext a).nmiPending = s.nmiPending ∧ (s.latchNext a).intLine = s.intLine ∧ (s.latchNext a).tacts = s.tacts ∧
    (s.latchNext a).tactWidth = s.tactWidth ∧ (s.latchNext a).mem = s.mem ∧ (s.latchNext a).portOut = s.portOut ∧
    (s.latchNext a).portIn = s.portIn ∧ (s.latchNext a).busVector = s.busVector ∧ (s.latchNext a).contention = s.contention ∧
    (s.latchNext a).draws = s.draws ∧ (s.latchNext a).failure = s.failure := by and_intros <;> rfl

@[simp] theorem latchEa_fields (x : Index) (d : Byte) :
    (s.latchEa x d).af = s.af ∧ (s.latchEa x d).bc = s.bc ∧ (s.latchEa x d).de = s.de ∧ (s.latchEa x d).hl = s.hl ∧
    (s.latchEa x d).afShadow = s.afShadow ∧ (s.latchEa x d).bcShadow = s.bcShadow ∧ (s.latchEa x d).deShadow = s.deShadow ∧
    (s.latchEa x d).hlShadow = s.hlShadow ∧ (s.latchEa x d).ix = s.ix ∧ (s.latchEa x d).iy = s.iy ∧ (s.latchEa x d).sp = s.sp ∧
    (s.latchEa x d).pc = s.pc ∧ (s.latchEa x d).wz = s.ea x d ∧ (s.latchEa x d).i = s.i ∧ (s.latchEa x d).r = s.r ∧
    (s.latchEa x d).iff1 = s.iff1 ∧ (s.latchEa x d).iff2 = s.iff2 ∧ (s.latchEa x d).im = s.im ∧
    (s.latchEa x d).halted = s.halted ∧ (s.latchEa x d).blocked = s.blocked ∧ (s.latchEa x d).prefixMode = s.prefixMode ∧
    (s.latchEa x d).indexMode = s.indexMode ∧ (s.latchEa x d).resetPending = s.resetPending ∧
    (s.latchEa x d).nmiPending = s.nmiPending ∧ (s.latchEa x d).intLine = s.intLine ∧ (s.latchEa x d).tacts = s.tacts ∧
    (s.latchEa x d).tactWidth = s.tactWidth ∧ (s.latchEa x d).mem = s.mem ∧ (s.latchEa x d).portOut = s.portOut ∧
    (s.latchEa x d).portIn = s.portIn ∧ (s.latchEa x d).busVector = s.busVector ∧ (s.latchEa x d).contention = s.contention ∧
    (s.latchEa x d).draws = s.draws ∧ (s.latchEa x d).failure = s.failure := by and_intros <;> rfl

@[simp] theorem setFlags_fields (g : Flags) :
    (s.setFlags g).af = word s.a (packFlags g) ∧ (s.setFlags g).bc = s.bc ∧ (s.setFlags g).de = s.de ∧
    (s.setFlags g).hl = s.hl ∧ (s.setFlags g).afShadow = s.afShadow ∧ (s.setFlags g).bcShadow = s.bcShadow ∧
    (s.setFlags g).deShadow = s.deShadow ∧ (s.setFlags g).hlShadow = s.hlShadow ∧ (s.setFlags g).ix = s.ix ∧
    (s.setFlags g).iy = s.iy ∧ (s.setFlags g).sp = s.sp ∧ (s.setFlags g).pc = s.pc ∧ (s.setFlags g).wz = s.wz ∧
    (s.setFlags g).i = s.i ∧ (s.setFlags g).r = s.r ∧ (s.setFlags g).iff1 = s.iff1 ∧ (s.setFlags g).iff2 = s.iff2 ∧
    (s.setFlags g).im = s.im ∧ (s.setFlags g).halted = s.halted ∧ (s.setFlags g).blocked = s.blocked ∧
    (s.setFlags g).prefixMode = s.prefixMode ∧ (s.setFlags g).indexMode = s.indexMode ∧
    (s.setFlags g).resetPending = s.resetPending ∧ (s.setFlags g).nmiPending = s.nmiPending ∧
    (s.setFlags g).intLine = s.intLine ∧ (s.setFlags g).tacts = s.tacts ∧ (s.setFlags g).tactWidth = s.tactWidth ∧
    (s.setFlags g).mem = s.mem ∧ (s.setFlags g).portOut = s.portOut ∧ (s.setFlags g).portIn = s.portIn ∧
    (s.setFlags g).busVector = s.busVector ∧ (s.setFlags g).contention = s.contention ∧ (s.setFlags g).draws = s.draws ∧
    (s.setFlags g).failure = s.failure := by and_intros <;> rfl

@[simp] theorem setAF_fields (v : Byte × Flags) :
    (s.setAF v).af = word v.1 (packFlags v.2) ∧ (s.setAF v).bc = s.bc ∧ (s.setAF v).de = s.de ∧ (s.setAF v).hl = s.hl ∧
    (s.setAF v).afShadow = s.afShadow ∧ (s.setAF v).bcShadow = s.bcShadow ∧ (s.setAF v).deShadow = s.deShadow ∧
    (s.setAF v).hlShadow = s.hlShadow ∧ (s.setAF v).ix = s.ix ∧ (s.setAF v).iy = s.iy ∧ (s.setAF v).sp = s.sp ∧
    (s.setAF v).pc = s.pc ∧ (s.setAF v).wz = s.wz ∧ (s.setAF v).i = s.i ∧ (s.setAF v).r = s.r ∧ (s.setAF v).iff1 = s.iff1 ∧
    (s.setAF v).iff2 = s.iff2 ∧ (s.setAF v).im = s.im ∧ (s.setAF v).halted = s.halted ∧ (s.setAF v).blocked = s.blocked ∧
    (s.setAF v).prefixMode = s.prefixMode ∧ (s.setAF v).indexMode = s.indexMode ∧ (s.setAF v).resetPending = s.resetPending ∧
    (s.setAF v).nmiPending = s.nmiPending ∧ (s.setAF v).intLine = s.intLine ∧ (s.setAF v).tacts = s.tacts ∧
    (s.setAF v).tactWidth = s.tactWidth ∧ (s.setAF v).mem = s.mem ∧ (s.setAF v).portOut = s.portOut ∧
    (s.setAF v).portIn = s.portIn ∧ (s.setAF v).busVector = s.busVector ∧ (s.setAF v).contention = s.contention ∧
    (s.setAF v).draws = s.draws ∧ (s.setAF v).failure = s.failure := by and_intros <;> rfl

@[simp] theorem setReg8_fields (q : Reg8) (v : Byte) :
    (s.setReg8 q v).afShadow = s.afShadow ∧ (s.setReg8 q v).bcShadow = s.bcShadow ∧ (s.setReg8 q v).deShadow = s.deShadow ∧
    (s.setReg8 q v).hlShadow = s.hlShadow ∧ (s.setReg8 q v).ix = s.ix ∧ (s.setReg8 q v).iy = s.iy ∧ (s.setReg8 q v).sp = s.sp ∧
    (s.setReg8 q v).pc = s.pc ∧ (s.setReg8 q v).wz = s.wz ∧ (s.setReg8 q v).i = s.i ∧ (s.setReg8 q v).r = s.r ∧
    (s.setReg8 q v).iff1 = s.iff1 ∧ (s.setReg8 q v).iff2 = s.iff2 ∧ (s.setReg8 q v).im = s.im ∧
    (s.setReg8 q v).halted = s.halted ∧ (s.setReg8 q v).blocked = s.blocked ∧ (s.setReg8 q v).prefixMode = s.prefixMode ∧
    (s.setReg8 q v).indexMode = s.indexMode ∧ (s.setReg8 q v).resetPending = s.resetPending ∧
    (s.setReg8 q v).nmiPending = s.nmiPending ∧ (s.setReg8 q v).intLine = s.intLine ∧ (s.setReg8 q v).tacts = s.tacts ∧
    (s.setReg8 q v).tactWidth = s.tactWidth ∧ (s.setReg8 q v).mem = s.mem ∧ (s.setReg8 q v).portOut = s.portOut ∧
    (s.setReg8 q v).portIn = s.portIn ∧ (s.setReg8 q v).busVector = s.busVector ∧ (s.setReg8 q v).contention = s.contention ∧
    (s.setReg8 q v).draws = s.draws ∧ (s.setReg8 q v).failure = s.failure := by cases q <;> and_intros <;> rfl

@[simp] theorem setPair_fields (p : Pair) (v : Word) :
    (s.setPair p v).af = s.af ∧ (s.setPair p v).afShadow = s.afShadow ∧ (s.setPair p v).bcShadow = s.bcShadow ∧
    (s.setPair p v).deShadow = s.deShadow ∧ (s.setPair p v).hlShadow = s.hlShadow ∧ (s.setPair p v).ix = s.ix ∧
    (s.setPair p v).iy = s.iy ∧ (s.setPair p v).pc = s.pc ∧ (s.setPair p v).wz = s.wz ∧ (s.setPair p v).i = s.i ∧
    (s.setPair p v).r = s.r ∧ (s.setPair p v).iff1 = s.iff1 ∧ (s.setPair p v).iff2 = s.iff2 ∧ (s.setPair p v).im = s.im ∧
    (s.setPair p v).halted = s.halted ∧ (s.setPair p v).blocked = s.blocked ∧ (s.setPair p v).prefixMode = s.prefixMode ∧
    (s.setPair p v).indexMode = s.indexMode ∧ (s.setPair p v).resetPending = s.resetPending ∧
    (s.setPair p v).nmiPending = s.nmiPending ∧ (s.setPair p v).intLine = s.intLine ∧ (s.setPair p v).tacts = s.tacts ∧
    (s.setPair p v).tactWidth = s.tactWidth ∧ (s.setPair p v).mem = s.mem ∧ (s.setPair p v).portOut = s.portOut ∧
    (s.setPair p v).portIn = s.portIn ∧ (s.setPair p v).busVector = s.busVector ∧ (s.setPair p v).contention = s.contention ∧
    (s.setPair p v).draws = s.draws ∧ (s.setPair p v).failure = s.failure := by cases p <;> and_intros <;> rfl

@[simp] theorem setStackPair_fields (q : StackPair) (v : Word) :
    (s.setStackPair q v).afShadow = s.afShadow ∧ (s.setStackPair q v).bcShadow = s.bcShadow ∧
    (s.setStackPair q v).deShadow = s.deShadow ∧ (s.setStackPair q v).hlShadow = s.hlShadow ∧ (s.setStackPair q v).ix = s.ix ∧
    (s.setStackPair q v).iy = s.iy ∧ (s.setStackPair q v).sp = s.sp ∧ (s.setStackPair q v).pc = s.pc ∧
    (s.setStackPair q v).wz = s.wz ∧ (s.setStackPair q v).i = s.i ∧ (s.setStackPair q v).r = s.r ∧
    (s.setStackPair q v).iff1 = s.iff1 ∧ (s.setStackPair q v).iff2 = s.iff2 ∧ (s.setStackPair q v).im = s.im ∧
    (s.setStackPair q v).halted = s.halted ∧ (s.setStackPair q v).blocked = s.blocked ∧
    (s.setStackPair q v).prefixMode = s.prefixMode ∧ (s.setStackPair q v).indexMode = s.indexMode ∧
    (s.setStackPair q v).resetPending = s.resetPending ∧ (s.setStackPair q v).nmiPending = s.nmiPending ∧
    (s.setStackPair q v).intLine = s.intLine ∧ (s.setStackPair q v).tacts = s.tacts ∧
    (s.setStackPair q v).tactWidth = s.tactWidth ∧ (s.setStackPair q v).mem = s.mem ∧ (s.setStackPair q v).portOut = s.portOut ∧
    (s.setStackPair q v).portIn = s.portIn ∧ (s.setStackPair q v).busVector = s.busVector ∧
    (s.setStackPair q v).contention = s.contention ∧ (s.setStackPair q v).draws = s.draws ∧
    (s.setStackPair q v).failure = s.failure := by cases q <;> and_intros <;> rfl

@[simp] theorem setIndex_fields (x : Index) (v : Word) :
    (s.setIndex x v).af = s.af ∧ (s.setIndex x v).bc = s.bc ∧ (s.setIndex x v).de = s.de ∧ (s.setIndex x v).hl = s.hl ∧
    (s.setIndex x v).afShadow = s.afShadow ∧ (s.setIndex x v).bcShadow = s.bcShadow ∧ (s.setIndex x v).deShadow = s.deShadow ∧
    (s.setIndex x v).hlShadow = s.hlShadow ∧ (s.setIndex x v).sp = s.sp ∧ (s.setIndex x v).pc = s.pc ∧
    (s.setIndex x v).wz = s.wz ∧ (s.setIndex x v).i = s.i ∧ (s.setIndex x v).r = s.r ∧ (s.setIndex x v).iff1 = s.iff1 ∧
    (s.setIndex x v).iff2 = s.iff2 ∧ (s.setIndex x v).im = s.im ∧ (s.setIndex x v).halted = s.halted ∧
    (s.setIndex x v).blocked = s.blocked ∧ (s.setIndex x v).prefixMode = s.prefixMode ∧
    (s.setIndex x v).indexMode = s.indexMode ∧ (s.setIndex x v).resetPending = s.resetPending ∧
    (s.setIndex x v).nmiPending = s.nmiPending ∧ (s.setIndex x v).intLine = s.intLine ∧ (s.setIndex x v).tacts = s.tacts ∧
    (s.setIndex x v).tactWidth = s.tactWidth ∧ (s.setIndex x v).mem = s.mem ∧ (s.setIndex x v).portOut = s.portOut ∧
    (s.setIndex x v).portIn = s.portIn ∧ (s.setIndex x v).busVector = s.busVector ∧ (s.setIndex x v).contention = s.contention ∧
    (s.setIndex x v).draws = s.draws ∧ (s.setIndex x v).failure = s.failure := by cases x <;> and_intros <;> rfl

@[simp] theorem setIndexHalf_fields (x : Index) (q : Half) (v : Byte) :
    (s.setIndexHalf x q v).af = s.af ∧ (s.setIndexHalf x q v).bc = s.bc ∧ (s.setIndexHalf x q v).de = s.de ∧
    (s.setIndexHalf x q v).hl = s.hl ∧ (s.setIndexHalf x q v).afShadow = s.afShadow ∧
    (s.setIndexHalf x q v).bcShadow = s.bcShadow ∧ (s.setIndexHalf x q v).deShadow = s.deShadow ∧
    (s.setIndexHalf x q v).hlShadow = s.hlShadow ∧ (s.setIndexHalf x q v).sp = s.sp ∧ (s.setIndexHalf x q v).pc = s.pc ∧
    (s.setIndexHalf x q v).wz = s.wz ∧ (s.setIndexHalf x q v).i = s.i ∧ (s.setIndexHalf x q v).r = s.r ∧
    (s.setIndexHalf x q v).iff1 = s.iff1 ∧ (s.setIndexHalf x q v).iff2 = s.iff2 ∧ (s.setIndexHalf x q v).im = s.im ∧
    (s.setIndexHalf x q v).halted = s.halted ∧ (s.setIndexHalf x q v).blocked = s.blocked ∧
    (s.setIndexHalf x q v).prefixMode = s.prefixMode ∧ (s.setIndexHalf x q v).indexMode = s.indexMode ∧
    (s.setIndexHalf x q v).resetPending = s.resetPending ∧ (s.setIndexHalf x q v).nmiPending = s.nmiPending ∧
    (s.setIndexHalf x q v).intLine = s.intLine ∧ (s.setIndexHalf x q v).tacts = s.tacts ∧
    (s.setIndexHalf x q v).tactWidth = s.tactWidth ∧ (s.setIndexHalf x q v).mem = s.mem ∧
    (s.setIndexHalf x q v).portOut = s.portOut ∧ (s.setIndexHalf x q v).portIn = s.portIn ∧
    (s.setIndexHalf x q v).busVector = s.busVector ∧ (s.setIndexHalf x q v).contention = s.contention ∧
    (s.setIndexHalf x q v).draws = s.draws ∧ (s.setIndexHalf x q v).failure = s.failure := by cases x <;> cases q <;> and_intros <;> rfl

/-! ### The updates that leave memory alone -/

/-- States with the same memory read the same. -/
theorem read8_of_mem_eq {s t : State} (h : t.mem = s.mem) (a : Word) : t.read8 a = s.read8 a := by
  simp only [State.read8, h]

@[simp] theorem read8_spend (n : Nat) (k : Word) : (s.spend n).read8 k = s.read8 k :=
  read8_of_mem_eq (by simp) k

@[simp] theorem read8_dropped16 (k : Word) : (s.dropped16).read8 k = s.read8 k :=
  read8_of_mem_eq (by simp) k

@[simp] theorem read8_portDrawn (k : Word) : (s.portDrawn).read8 k = s.read8 k :=
  read8_of_mem_eq (by simp) k

@[simp] theorem read8_portWrite (p : Word) (v : Byte) (k : Word) : (s.portWrite p v).read8 k = s.read8 k :=
  read8_of_mem_eq (by simp) k

@[simp] theorem read8_busDrawn (k : Word) : (s.busDrawn).read8 k = s.read8 k :=
  read8_of_mem_eq (by simp) k

@[simp] theorem read8_contend (x : Access) (k : Word) : (s.contend x).read8 k = s.read8 k :=
  read8_of_mem_eq (by simp) k

@[simp] theorem read8_contended (xs : List Access) (k : Word) : (s.contended xs).read8 k = s.read8 k :=
  read8_of_mem_eq (by simp) k

@[simp] theorem read8_opcodeStarted (k : Word) : (s.opcodeStarted).read8 k = s.read8 k :=
  read8_of_mem_eq (by simp) k

@[simp] theorem read8_fetched (n : Nat) (k : Word) : (s.fetched n).read8 k = s.read8 k :=
  read8_of_mem_eq (by simp) k

@[simp] theorem read8_repeatInstr (k : Word) : (s.repeatInstr).read8 k = s.read8 k :=
  read8_of_mem_eq (by simp) k

@[simp] theorem read8_repeatIf (b : Bool) (k : Word) : (s.repeatIf b).read8 k = s.read8 k :=
  read8_of_mem_eq (by simp) k

@[simp] theorem read8_goTo (a : Word) (k : Word) : (s.goTo a).read8 k = s.read8 k :=
  read8_of_mem_eq (by simp) k

@[simp] theorem read8_latchNext (a : Word) (k : Word) : (s.latchNext a).read8 k = s.read8 k :=
  read8_of_mem_eq (by simp) k

@[simp] theorem read8_latchEa (x : Index) (d : Byte) (k : Word) : (s.latchEa x d).read8 k = s.read8 k :=
  read8_of_mem_eq (by simp) k

@[simp] theorem read8_setFlags (g : Flags) (k : Word) : (s.setFlags g).read8 k = s.read8 k :=
  read8_of_mem_eq (by simp) k

@[simp] theorem read8_setAF (v : Byte × Flags) (k : Word) : (s.setAF v).read8 k = s.read8 k :=
  read8_of_mem_eq (by simp) k

@[simp] theorem read8_setPair (p : Pair) (v : Word) (k : Word) : (s.setPair p v).read8 k = s.read8 k :=
  read8_of_mem_eq (by simp) k

@[simp] theorem read8_setStackPair (q : StackPair) (v : Word) (k : Word) : (s.setStackPair q v).read8 k = s.read8 k :=
  read8_of_mem_eq (by simp) k

@[simp] theorem read8_setIndex (x : Index) (v : Word) (k : Word) : (s.setIndex x v).read8 k = s.read8 k :=
  read8_of_mem_eq (by simp) k

@[simp] theorem read8_setIndexHalf (x : Index) (q : Half) (v : Byte) (k : Word) : (s.setIndexHalf x q v).read8 k = s.read8 k :=
  read8_of_mem_eq (by simp) k

end Sys2Proof.Machine
end

