-- ==== Sys2Proof/Laws/Ops.lean ====
section
/-! SUPPORT. What each shared operation of the meanings can do, said once: the state it leaves, field by field, the byte every
address then reads, and the flags. Later proofs cite these instead of unfolding the operation. -/

namespace Sys2Proof.Machine

open Sys2Proof

variable (s : State)

/-! ### Interrupts (60_exceptions.md) -/

/-- The state of a handler's entry with the PC pushed: what it saves and what it clears (R621, R623). -/
def State.entered (iff2 : Bool) : State :=
  { s with
    halted := false, r := inc7 s.r, iff1 := false, iff2 := iff2, sp := s.sp - 2
    mem := s.mem.writeAll [(s.sp - 1, hi s.pc), (s.sp - 2, lo s.pc)] }

/-- The entry common to the NMI and the maskable interrupt: where it goes from there (R621, R623). -/
theorem enterHandler_spec (iff2 : Bool) (vector : State → Word) (cost : Nat) :
    s.enterHandler iff2 vector cost =
      { s.entered iff2 with
        pc := vector (s.entered iff2), wz := vector (s.entered iff2), tacts := s.tacts + cost } := by
  have h : s.sp - 1 - 1 = s.sp - 2 := by bv_omega
  simp only [State.enterHandler, State.push16, State.write8, State.spend, h]; rfl

/-- The return from a handler: the PC is popped, IFF1 is restored from IFF2, nothing else changes (R629). -/
theorem leaveHandler_spec : s.leaveHandler = { s with sp := s.sp + 2, pc := s.top16, wz := s.top16, iff1 := s.iff2 } := rfl

/-- The word at SP. -/
@[simp] theorem lo_top16 : lo s.top16 = s.read8 s.sp := State.lo_read16 s s.sp

@[simp] theorem hi_top16 : hi s.top16 = s.read8 (s.sp + 1) := State.hi_read16 s s.sp

/-! ### Tacts (10_state.md R54, 20_memory.md R89) -/

/-- Contention only adds tacts. -/
theorem tacts_le_contend (x : Access) : s.tacts ≤ (s.contend x).tacts := by
  unfold State.contend; split <;> simp

theorem tacts_le_contended (xs : List Access) : s.tacts ≤ (s.contended xs).tacts := by
  induction xs generalizing s with
  | nil => exact Nat.le_refl _
  | cons x xs ih => exact (tacts_le_contend s x).trans (ih (s.contend x))

/-- With no draw chosen, contention is the default 0 (decision D17). -/
theorem contended_default (xs : List Access) (h : s.contention = []) : s.contended xs = s := by
  induction xs with
  | nil => rfl
  | cons x xs ih =>
    have hx : s.contend x = s := by
      unfold State.contend; split
      · rfl
      · ext <;> simp [h]
    rw [State.contended, List.foldl_cons, hx]; exact ih

/-- Contention changes the tacts and uses up draws, and changes nothing else (20_memory.md R89). -/
theorem contended_eq (xs : List Access) :
    s.contended xs = { s with tacts := (s.contended xs).tacts, contention := (s.contended xs).contention } := by
  ext1 <;> simp

/-- An unbounded counter is not narrowed. -/
@[simp] theorem narrow_unbounded (n : Nat) (h : s.tactWidth = none) : s.narrow n = n := by simp [State.narrow, h]

/-- Narrowing again changes nothing. -/
@[simp] theorem narrow_narrow (n : Nat) : s.narrow (s.narrow n) = s.narrow n := by
  unfold State.narrow; split <;> simp

/-- A narrowed count narrowed with more is the sum narrowed: a step may narrow once, at its end. -/
theorem narrow_add (m n : Nat) : s.narrow (s.narrow m + n) = s.narrow (m + n) := by
  unfold State.narrow; split <;> simp

/-! ### The step (60_exceptions.md R611) -/

/-- Where every collaborator answers, the step is its work after its contention, narrowed. -/
theorem step_of_answered (h : s.answered = true) : step s = narrowTacts (s.contended s.stepAccesses).work := by
  simp only [State.answered, beq_iff_eq] at h
  simp only [step, State.cycle, h]

/-- A step without accesses is always answered (R613, R615). -/
theorem answered_of_no_accesses (h : s.stepAccesses = []) : s.answered = true := by
  unfold State.answered State.failing; rw [h]; cases s.failure <;> rfl

/-- A step that ends in a next state: no collaborator fails, and the work done after its contention, narrowed. -/
theorem step_eq_next {s t : State} (h : step s = .next t) :
    s.failing s.stepAccesses = none ∧
    ∃ u : State, (s.contended s.stepAccesses).work = .next u ∧ t = { u with tacts := u.narrow u.tacts } := by
  simp only [step, State.cycle] at h
  split at h
  · cases h
  · refine ⟨‹_›, ?_⟩
    cases hw : (s.contended s.stepAccesses).work with
    | next u => rw [hw] at h; exact ⟨u, rfl, by simpa [narrowTacts, eq_comm] using h⟩
    | fault f => rw [hw] at h; cases h
    | refused r => rw [hw] at h; cases h

/-- Contention makes no difference to which step it is. -/
@[simp] theorem stepKind_contended (xs : List Access) : (s.contended xs).stepKind = s.stepKind := by
  rw [contended_eq]; rfl

/-- Nor to the instruction at the PC. -/
@[simp] theorem decoded_contended (xs : List Access) : (s.contended xs).decoded = s.decoded := by
  rw [contended_eq]; rfl

/-- What the decoder reads at the PC. -/
theorem decoded_ok {s : State} {i : Instr} {rest : List Byte} (h : decodeIn s.context s.fetchBytes = .ok (i, rest)) :
    s.decoded = .ok (i, 3 - rest.length) := by
  simp only [State.decoded, h]; rfl

/-! ### Flags, field by field -/

@[simp] theorem szxy_fields (g : Flags) (v : Byte) :
    (g.szxy v).s = v.getLsbD 7 ∧ (g.szxy v).z = (v == 0) ∧ (g.szxy v).y = v.getLsbD 5 ∧ (g.szxy v).x = v.getLsbD 3 ∧
    (g.szxy v).h = g.h ∧ (g.szxy v).pv = g.pv ∧ (g.szxy v).n = g.n ∧ (g.szxy v).c = g.c := by and_intros <;> rfl

/-- Parity as a count of ones (00_scope.md R15). -/
theorem parity_eq_evenOnes (v : Byte) : parity v = evenOnes v := by revert v; decide +kernel

/-- The mask of a bit number. -/
theorem getLsbD_bitMask (b : Oct) (k : Nat) (hk : k < 8) : (bitMask b).getLsbD k = decide (k = octVal b) := by
  revert k; cases b <;> decide

/-! ### Meanings that end in a next state -/

/-- An ALU operation on each operand form (43_alu8.md R305). -/
theorem exec_alu (o : AluOp) (f : AluForm) :
    exec (aluInstr o f) s = .next
      (((match o with
        | .add => State.accAdd | .adc => State.accAdc | .sub => State.accSub | .sbc => State.accSbc
        | .and => State.accAnd | .xor => State.accXor | .or => State.accOr | .cp => State.accCp)
        { s with wz := f.wz s } (f.operand s)).spend f.tacts) := by
  cases o <;> cases f <;> rfl

/-- The function that an operation name stands for. -/
def RotOp.fn : RotOp → Byte → Bool → Byte × Bool
  | .rlc => rlc8 | .rrc => rrc8 | .rl => rl8 | .rr => rr8 | .sla => sla8 | .sra => sra8 | .sll => sll8 | .srl => srl8

/-- Its result and carry as numbers (45_rotate_shift.md R375 to R382). -/
theorem RotOp.fn_spec (o : RotOp) (v : Byte) (cin : Bool) :
    (o.fn v cin).1.toNat = o.result v cin ∧ (o.fn v cin).2 = o.carry v := by
  revert v cin; cases o <;> decide +kernel

end Sys2Proof.Machine
end

