-- ==== Sys2Proof/Laws/PerInstr.lean ====
section
/-! SUPPORT. A statement about every instruction as syntax, one lemma for each constructor: an encoding has one to three bytes. -/

namespace Sys2Proof.Laws.EncodedLength

open Sys2Proof

set_option Elab.async false

/-- 30_encoding.md R111: after its prefix bytes, an instruction has one to three bytes. -/
def Statement (i : Instr) : Prop := i.wf = true → 1 ≤ (encode i).length ∧ (encode i).length ≤ 3

theorem of_length_one {i : Instr} (h : (encode i).length = 1) : Statement i := fun _ => by omega

theorem of_length_two {i : Instr} (h : (encode i).length = 2) : Statement i := fun _ => by omega

theorem of_length_three {i : Instr} (h : (encode i).length = 3) : Statement i := fun _ => by omega

theorem nop : Statement (.nop) := of_length_one rfl

theorem exAfAf : Statement (.exAfAf) := of_length_one rfl

theorem djnz (e : Byte) : Statement (.djnz e) := of_length_two rfl

theorem jr (e : Byte) : Statement (.jr e) := of_length_two rfl

theorem jrCc (cc : JrCond) (e : Byte) : Statement (.jrCc cc e) := of_length_two rfl

theorem ldRpNn (p : Pair) (nn : Word) : Statement (.ldRpNn p nn) := of_length_three rfl

theorem addHlRp (p : Pair) : Statement (.addHlRp p) := of_length_one rfl

theorem ldIndBcA : Statement (.ldIndBcA) := of_length_one rfl

theorem ldIndDeA : Statement (.ldIndDeA) := of_length_one rfl

theorem ldIndNnHl (nn : Word) : Statement (.ldIndNnHl nn) := of_length_three rfl

theorem ldIndNnA (nn : Word) : Statement (.ldIndNnA nn) := of_length_three rfl

theorem ldAIndBc : Statement (.ldAIndBc) := of_length_one rfl

theorem ldAIndDe : Statement (.ldAIndDe) := of_length_one rfl

theorem ldHlIndNn (nn : Word) : Statement (.ldHlIndNn nn) := of_length_three rfl

theorem ldAIndNn (nn : Word) : Statement (.ldAIndNn nn) := of_length_three rfl

theorem incRp (p : Pair) : Statement (.incRp p) := of_length_one rfl

theorem decRp (p : Pair) : Statement (.decRp p) := of_length_one rfl

theorem incR (r : Reg8) : Statement (.incR r) := of_length_one rfl

theorem incIndHl : Statement (.incIndHl) := of_length_one rfl

theorem decR (r : Reg8) : Statement (.decR r) := of_length_one rfl

theorem decIndHl : Statement (.decIndHl) := of_length_one rfl

theorem ldRN (r : Reg8) (n : Byte) : Statement (.ldRN r n) := of_length_two rfl

theorem ldIndHlN (n : Byte) : Statement (.ldIndHlN n) := of_length_two rfl

theorem rlca : Statement (.rlca) := of_length_one rfl

theorem rrca : Statement (.rrca) := of_length_one rfl

theorem rla : Statement (.rla) := of_length_one rfl

theorem rra : Statement (.rra) := of_length_one rfl

theorem daa : Statement (.daa) := of_length_one rfl

theorem cpl : Statement (.cpl) := of_length_one rfl

theorem scf : Statement (.scf) := of_length_one rfl

theorem ccf : Statement (.ccf) := of_length_one rfl

theorem ldRR (dst : Reg8) (src : Reg8) : Statement (.ldRR dst src) := of_length_one rfl

theorem ldRIndHl (r : Reg8) : Statement (.ldRIndHl r) := of_length_one rfl

theorem ldIndHlR (r : Reg8) : Statement (.ldIndHlR r) := of_length_one rfl

theorem halt : Statement (.halt) := of_length_one rfl

theorem addR (r : Reg8) : Statement (.addR r) := of_length_one rfl

theorem addIndHl : Statement (.addIndHl) := of_length_one rfl

theorem addN (n : Byte) : Statement (.addN n) := of_length_two rfl

theorem adcR (r : Reg8) : Statement (.adcR r) := of_length_one rfl

theorem adcIndHl : Statement (.adcIndHl) := of_length_one rfl

theorem adcN (n : Byte) : Statement (.adcN n) := of_length_two rfl

theorem subR (r : Reg8) : Statement (.subR r) := of_length_one rfl

theorem subIndHl : Statement (.subIndHl) := of_length_one rfl

theorem subN (n : Byte) : Statement (.subN n) := of_length_two rfl

theorem sbcR (r : Reg8) : Statement (.sbcR r) := of_length_one rfl

theorem sbcIndHl : Statement (.sbcIndHl) := of_length_one rfl

theorem sbcN (n : Byte) : Statement (.sbcN n) := of_length_two rfl

theorem andR (r : Reg8) : Statement (.andR r) := of_length_one rfl

theorem andIndHl : Statement (.andIndHl) := of_length_one rfl

theorem andN (n : Byte) : Statement (.andN n) := of_length_two rfl

theorem xorR (r : Reg8) : Statement (.xorR r) := of_length_one rfl

theorem xorIndHl : Statement (.xorIndHl) := of_length_one rfl

theorem xorN (n : Byte) : Statement (.xorN n) := of_length_two rfl

theorem orR (r : Reg8) : Statement (.orR r) := of_length_one rfl

theorem orIndHl : Statement (.orIndHl) := of_length_one rfl

theorem orN (n : Byte) : Statement (.orN n) := of_length_two rfl

theorem cpR (r : Reg8) : Statement (.cpR r) := of_length_one rfl

theorem cpIndHl : Statement (.cpIndHl) := of_length_one rfl

theorem cpN (n : Byte) : Statement (.cpN n) := of_length_two rfl

theorem retCc (cc : Cond) : Statement (.retCc cc) := of_length_one rfl

theorem popRp (q : StackPair) : Statement (.popRp q) := of_length_one rfl

theorem ret : Statement (.ret) := of_length_one rfl

theorem exx : Statement (.exx) := of_length_one rfl

theorem jpIndHl : Statement (.jpIndHl) := of_length_one rfl

theorem ldSpHl : Statement (.ldSpHl) := of_length_one rfl

theorem jpCcNn (cc : Cond) (nn : Word) : Statement (.jpCcNn cc nn) := of_length_three rfl

theorem jpNn (nn : Word) : Statement (.jpNn nn) := of_length_three rfl

theorem cbPrefix : Statement (.cbPrefix) := of_length_one rfl

theorem outIndNA (n : Byte) : Statement (.outIndNA n) := of_length_two rfl

theorem inAIndN (n : Byte) : Statement (.inAIndN n) := of_length_two rfl

theorem exIndSpHl : Statement (.exIndSpHl) := of_length_one rfl

theorem exDeHl : Statement (.exDeHl) := of_length_one rfl

theorem di : Statement (.di) := of_length_one rfl

theorem ei : Statement (.ei) := of_length_one rfl

theorem callCcNn (cc : Cond) (nn : Word) : Statement (.callCcNn cc nn) := of_length_three rfl

theorem pushRp (q : StackPair) : Statement (.pushRp q) := of_length_one rfl

theorem callNn (nn : Word) : Statement (.callNn nn) := of_length_three rfl

theorem ddPrefix : Statement (.ddPrefix) := of_length_one rfl

theorem edPrefix : Statement (.edPrefix) := of_length_one rfl

theorem fdPrefix : Statement (.fdPrefix) := of_length_one rfl

theorem rst (y : Oct) : Statement (.rst y) := of_length_one rfl

theorem addXRp (x : Index) (p : Pair) : Statement (.addXRp x p) := of_length_one rfl

theorem ldXNn (x : Index) (nn : Word) : Statement (.ldXNn x nn) := of_length_three rfl

theorem ldIndNnX (x : Index) (nn : Word) : Statement (.ldIndNnX x nn) := of_length_three rfl

theorem ldXIndNn (x : Index) (nn : Word) : Statement (.ldXIndNn x nn) := of_length_three rfl

theorem incX (x : Index) : Statement (.incX x) := of_length_one rfl

theorem decX (x : Index) : Statement (.decX x) := of_length_one rfl

theorem incXHalf (x : Index) (q : Half) : Statement (.incXHalf x q) := of_length_one rfl

theorem decXHalf (x : Index) (q : Half) : Statement (.decXHalf x q) := of_length_one rfl

theorem ldXHalfN (x : Index) (q : Half) (n : Byte) : Statement (.ldXHalfN x q n) := of_length_two rfl

theorem incIdx (x : Index) (d : Byte) : Statement (.incIdx x d) := of_length_two rfl

theorem decIdx (x : Index) (d : Byte) : Statement (.decIdx x d) := of_length_two rfl

theorem ldIdxN (x : Index) (d : Byte) (n : Byte) : Statement (.ldIdxN x d n) := of_length_three rfl

theorem ldRRHalves (x : Index) (dst : Reg8) (src : Reg8) : Statement (.ldRRHalves x dst src) := of_length_one rfl

theorem ldRIdx (x : Index) (r : Reg8) (d : Byte) : Statement (.ldRIdx x r d) := of_length_two rfl

theorem ldIdxR (x : Index) (d : Byte) (r : Reg8) : Statement (.ldIdxR x d r) := of_length_two rfl

theorem addXHalf (x : Index) (q : Half) : Statement (.addXHalf x q) := of_length_one rfl

theorem addIdx (x : Index) (d : Byte) : Statement (.addIdx x d) := of_length_two rfl

theorem adcXHalf (x : Index) (q : Half) : Statement (.adcXHalf x q) := of_length_one rfl

theorem adcIdx (x : Index) (d : Byte) : Statement (.adcIdx x d) := of_length_two rfl

theorem subXHalf (x : Index) (q : Half) : Statement (.subXHalf x q) := of_length_one rfl

theorem subIdx (x : Index) (d : Byte) : Statement (.subIdx x d) := of_length_two rfl

theorem sbcXHalf (x : Index) (q : Half) : Statement (.sbcXHalf x q) := of_length_one rfl

theorem sbcIdx (x : Index) (d : Byte) : Statement (.sbcIdx x d) := of_length_two rfl

theorem andXHalf (x : Index) (q : Half) : Statement (.andXHalf x q) := of_length_one rfl

theorem andIdx (x : Index) (d : Byte) : Statement (.andIdx x d) := of_length_two rfl

theorem xorXHalf (x : Index) (q : Half) : Statement (.xorXHalf x q) := of_length_one rfl

theorem xorIdx (x : Index) (d : Byte) : Statement (.xorIdx x d) := of_length_two rfl

theorem orXHalf (x : Index) (q : Half) : Statement (.orXHalf x q) := of_length_one rfl

theorem orIdx (x : Index) (d : Byte) : Statement (.orIdx x d) := of_length_two rfl

theorem cpXHalf (x : Index) (q : Half) : Statement (.cpXHalf x q) := of_length_one rfl

theorem cpIdx (x : Index) (d : Byte) : Statement (.cpIdx x d) := of_length_two rfl

theorem popX (x : Index) : Statement (.popX x) := of_length_one rfl

theorem exIndSpX (x : Index) : Statement (.exIndSpX x) := of_length_one rfl

theorem pushX (x : Index) : Statement (.pushX x) := of_length_one rfl

theorem jpX (x : Index) : Statement (.jpX x) := of_length_one rfl

theorem ldSpX (x : Index) : Statement (.ldSpX x) := of_length_one rfl

theorem cbPrefixX (x : Index) : Statement (.cbPrefixX x) := of_length_one rfl

theorem ddPrefixX (x : Index) : Statement (.ddPrefixX x) := of_length_one rfl

theorem edPrefixX (x : Index) : Statement (.edPrefixX x) := of_length_one rfl

theorem fdPrefixX (x : Index) : Statement (.fdPrefixX x) := of_length_one rfl

theorem anyOther (x : Index) (j : Instr) : Statement (.anyOther x j) := by
  intro h
  cases j <;> first
    | exact absurd h Bool.false_ne_true
    | exact of_length_one rfl h
    | exact of_length_two rfl h
    | exact of_length_three rfl h

theorem rlcR (r : Reg8) : Statement (.rlcR r) := of_length_one rfl

theorem rlcIndHl : Statement (.rlcIndHl) := of_length_one rfl

theorem rrcR (r : Reg8) : Statement (.rrcR r) := of_length_one rfl

theorem rrcIndHl : Statement (.rrcIndHl) := of_length_one rfl

theorem rlR (r : Reg8) : Statement (.rlR r) := of_length_one rfl

theorem rlIndHl : Statement (.rlIndHl) := of_length_one rfl

theorem rrR (r : Reg8) : Statement (.rrR r) := of_length_one rfl

theorem rrIndHl : Statement (.rrIndHl) := of_length_one rfl

theorem slaR (r : Reg8) : Statement (.slaR r) := of_length_one rfl

theorem slaIndHl : Statement (.slaIndHl) := of_length_one rfl

theorem sraR (r : Reg8) : Statement (.sraR r) := of_length_one rfl

theorem sraIndHl : Statement (.sraIndHl) := of_length_one rfl

theorem sllR (r : Reg8) : Statement (.sllR r) := of_length_one rfl

theorem sllIndHl : Statement (.sllIndHl) := of_length_one rfl

theorem srlR (r : Reg8) : Statement (.srlR r) := of_length_one rfl

theorem srlIndHl : Statement (.srlIndHl) := of_length_one rfl

theorem bitR (b : Oct) (r : Reg8) : Statement (.bitR b r) := of_length_one rfl

theorem bitIndHl (b : Oct) : Statement (.bitIndHl b) := of_length_one rfl

theorem resR (b : Oct) (r : Reg8) : Statement (.resR b r) := of_length_one rfl

theorem resIndHl (b : Oct) : Statement (.resIndHl b) := of_length_one rfl

theorem setR (b : Oct) (r : Reg8) : Statement (.setR b r) := of_length_one rfl

theorem setIndHl (b : Oct) : Statement (.setIndHl b) := of_length_one rfl

theorem rlcIdx (x : Index) (d : Byte) : Statement (.rlcIdx x d) := of_length_two rfl

theorem rlcIdxR (x : Index) (d : Byte) (r : Reg8) : Statement (.rlcIdxR x d r) := of_length_two rfl

theorem rrcIdx (x : Index) (d : Byte) : Statement (.rrcIdx x d) := of_length_two rfl

theorem rrcIdxR (x : Index) (d : Byte) (r : Reg8) : Statement (.rrcIdxR x d r) := of_length_two rfl

theorem rlIdx (x : Index) (d : Byte) : Statement (.rlIdx x d) := of_length_two rfl

theorem rlIdxR (x : Index) (d : Byte) (r : Reg8) : Statement (.rlIdxR x d r) := of_length_two rfl

theorem rrIdx (x : Index) (d : Byte) : Statement (.rrIdx x d) := of_length_two rfl

theorem rrIdxR (x : Index) (d : Byte) (r : Reg8) : Statement (.rrIdxR x d r) := of_length_two rfl

theorem slaIdx (x : Index) (d : Byte) : Statement (.slaIdx x d) := of_length_two rfl

theorem slaIdxR (x : Index) (d : Byte) (r : Reg8) : Statement (.slaIdxR x d r) := of_length_two rfl

theorem sraIdx (x : Index) (d : Byte) : Statement (.sraIdx x d) := of_length_two rfl

theorem sraIdxR (x : Index) (d : Byte) (r : Reg8) : Statement (.sraIdxR x d r) := of_length_two rfl

theorem sllIdx (x : Index) (d : Byte) : Statement (.sllIdx x d) := of_length_two rfl

theorem sllIdxR (x : Index) (d : Byte) (r : Reg8) : Statement (.sllIdxR x d r) := of_length_two rfl

theorem srlIdx (x : Index) (d : Byte) : Statement (.srlIdx x d) := of_length_two rfl

theorem srlIdxR (x : Index) (d : Byte) (r : Reg8) : Statement (.srlIdxR x d r) := of_length_two rfl

theorem bitIdx (x : Index) (d : Byte) (b : Oct) (z : Oct) : Statement (.bitIdx x d b z) := of_length_two rfl

theorem resIdx (x : Index) (d : Byte) (b : Oct) : Statement (.resIdx x d b) := of_length_two rfl

theorem resIdxR (x : Index) (d : Byte) (b : Oct) (r : Reg8) : Statement (.resIdxR x d b r) := of_length_two rfl

theorem setIdx (x : Index) (d : Byte) (b : Oct) : Statement (.setIdx x d b) := of_length_two rfl

theorem setIdxR (x : Index) (d : Byte) (b : Oct) (r : Reg8) : Statement (.setIdxR x d b r) := of_length_two rfl

theorem inRIndC (r : Reg8) : Statement (.inRIndC r) := of_length_one rfl

theorem inIndC : Statement (.inIndC) := of_length_one rfl

theorem outIndCR (r : Reg8) : Statement (.outIndCR r) := of_length_one rfl

theorem outIndC0 : Statement (.outIndC0) := of_length_one rfl

theorem sbcHlRp (p : Pair) : Statement (.sbcHlRp p) := of_length_one rfl

theorem adcHlRp (p : Pair) : Statement (.adcHlRp p) := of_length_one rfl

theorem ldIndNnRp (p : Pair) (nn : Word) : Statement (.ldIndNnRp p nn) := of_length_three rfl

theorem ldRpIndNn (p : Pair) (nn : Word) : Statement (.ldRpIndNn p nn) := of_length_three rfl

theorem neg (y : Oct) : Statement (.neg y) := of_length_one rfl

theorem retn (y : Oct) : Statement (.retn y) := of_length_one rfl

theorem reti : Statement (.reti) := of_length_one rfl

theorem im0 (y : Oct) : Statement (.im0 y) := of_length_one rfl

theorem im1 (y : Oct) : Statement (.im1 y) := of_length_one rfl

theorem im2 (y : Oct) : Statement (.im2 y) := of_length_one rfl

theorem ldIA : Statement (.ldIA) := of_length_one rfl

theorem ldRegRA : Statement (.ldRegRA) := of_length_one rfl

theorem ldAI : Statement (.ldAI) := of_length_one rfl

theorem ldARegR : Statement (.ldARegR) := of_length_one rfl

theorem rrd : Statement (.rrd) := of_length_one rfl

theorem rld : Statement (.rld) := of_length_one rfl

theorem ldi : Statement (.ldi) := of_length_one rfl

theorem ldd : Statement (.ldd) := of_length_one rfl

theorem ldir : Statement (.ldir) := of_length_one rfl

theorem lddr : Statement (.lddr) := of_length_one rfl

theorem cpi : Statement (.cpi) := of_length_one rfl

theorem cpd : Statement (.cpd) := of_length_one rfl

theorem cpir : Statement (.cpir) := of_length_one rfl

theorem cpdr : Statement (.cpdr) := of_length_one rfl

theorem ini : Statement (.ini) := of_length_one rfl

theorem ind : Statement (.ind) := of_length_one rfl

theorem inir : Statement (.inir) := of_length_one rfl

theorem indr : Statement (.indr) := of_length_one rfl

theorem outi : Statement (.outi) := of_length_one rfl

theorem outd : Statement (.outd) := of_length_one rfl

theorem otir : Statement (.otir) := of_length_one rfl

theorem otdr : Statement (.otdr) := of_length_one rfl

theorem nopEd (op : Byte) : Statement (.nopEd op) := of_length_one rfl

end Sys2Proof.Laws.EncodedLength
end

