-- ==== Sys2Proof/Tests/Slice0.lean ====
section
/-! SUPPORT. The model's own tests: ill-formed terms, words written out from the encodings, one step per instruction, and states that
meet the hypotheses of the obligations.

The expected results are those of 95_test_vectors.md (named by their number) or worked out from the rule that is named. A test of
an instruction after a prefix byte starts after the prefix step, so that it is one step. -/

namespace Sys2Proof.Tests

open Sys2Proof Machine

set_option Elab.async false

/-- The state after power-up with the code and the cells in memory and the PC on the code. -/
def withCode (a : Word) (code : List Byte) (cells : Memory) : State :=
  cells.foldl (fun s c => s.load8 (BitVec.ofNat 16 c.1) c.2) (({ State.reset with pc := a }).placeBytes a code)

/-- Does the step from `s` give a next state, and one that passes? -/
def nextHas (s : State) (p : State → Bool) : Bool :=
  match step s with
  | .next t => p t
  | .fault _ | .refused _ => false

/-! ### WellFormed refuses an ill-formed term for each check -/

/-- R212: a transfer between registers that the prefix does not change is context None's. -/
theorem test_wf_refuses_ldRRHalves_without_halves : (Instr.ldRRHalves .ix .b .c).wf = false := by decide

/-- R115: the fall-back of an instruction that the prefix does change. -/
theorem test_wf_refuses_anyOther_of_substituted : (Instr.anyOther .iy .ldSpHl).wf = false := by decide

/-- R115: `INC H` becomes `INC IXH`. -/
theorem test_wf_refuses_anyOther_of_incH : (Instr.anyOther .ix (.incR .h)).wf = false := by decide

/-- R432: ED 4D is RETI. -/
theorem test_wf_refuses_retn_of_reti : (Instr.retn .o1).wf = false := by decide

/-- R494. -/
theorem test_wf_refuses_im0_of_im1 : (Instr.im0 .o2).wf = false := by decide

/-- R495. -/
theorem test_wf_refuses_im1_of_im2 : (Instr.im1 .o3).wf = false := by decide

/-- R496. -/
theorem test_wf_refuses_im2_of_im0 : (Instr.im2 .o0).wf = false := by decide

/-- R497: ED A0 is LDI. -/
theorem test_wf_refuses_nopEd_of_ldi : (Instr.nopEd 0xA0).wf = false := by decide

/-! ### Words written out from the encodings (30_encoding.md; the family files) -/

/-- `LD D,E` 01 010 011; `LD A,n` 00 111 110; `LD (HL),C` 01 110 001. -/
theorem test_words_load8 :
    decodeIn .plain [0b01010011] = .ok (.ldRR .d .e, []) ∧ decodeIn .plain [0b00111110, 0x77] = .ok (.ldRN .a 0x77, []) ∧
    decodeIn .plain [0b01110001] = .ok (.ldIndHlR .c, []) := ⟨rfl, rfl, rfl⟩

/-- `LD H,(IX+d)` 01 100 110: H is not substituted; `LD IYL,B` 01 101 000; `LD (IX+d),n`. -/
theorem test_words_load8_index :
    decodeIn (.index .ix) [0b01100110, 0xFE] = .ok (.ldRIdx .ix .h 0xFE, []) ∧
    decodeIn (.index .iy) [0b01101000] = .ok (.ldRRHalves .iy .l .b, []) ∧
    decodeIn (.index .ix) [0b00110110, 0x05, 0x09] = .ok (.ldIdxN .ix 0x05 0x09, []) := ⟨rfl, rfl, rfl⟩

/-- `LD SP,nn` 00 11 0001, low byte first; `POP AF` 11 11 0001; `LD (nn),DE` ED 01 01 0011. -/
theorem test_words_load16 :
    decodeIn .plain [0b00110001, 0x34, 0x12] = .ok (.ldRpNn .sp 0x1234, []) ∧ decodeIn .plain [0b11110001] = .ok (.popRp .af, []) ∧
    decodeIn .ed [0b01010011, 0x00, 0x80] = .ok (.ldIndNnRp .de 0x8000, []) := ⟨rfl, rfl, rfl⟩

/-- `LDIR` ED 10 110 000; `CPD` ED 10 101 001. -/
theorem test_words_block :
    decodeIn .ed [0b10110000] = .ok (.ldir, []) ∧ decodeIn .ed [0b10101001] = .ok (.cpd, []) := ⟨rfl, rfl⟩

/-- `SBC A,L` 10 011 101; `XOR n` 11 101 110; `INC (HL)` 00 110 100; `CP IXH` 10 111 100. -/
theorem test_words_alu8 :
    decodeIn .plain [0b10011101] = .ok (.sbcR .l, []) ∧ decodeIn .plain [0b11101110, 0x0F] = .ok (.xorN 0x0F, []) ∧
    decodeIn .plain [0b00110100] = .ok (.incIndHl, []) ∧ decodeIn (.index .ix) [0b10111100] = .ok (.cpXHalf .ix .high, []) :=
  ⟨rfl, rfl, rfl, rfl⟩

/-- `ADD HL,DE` 00 01 1001; `ADD IY,IY` 00 10 1001; `SBC HL,SP` ED 01 11 0010. -/
theorem test_words_alu16 :
    decodeIn .plain [0b00011001] = .ok (.addHlRp .de, []) ∧ decodeIn (.index .iy) [0b00101001] = .ok (.addXRp .iy .hl, []) ∧
    decodeIn .ed [0b01110010] = .ok (.sbcHlRp .sp, []) := ⟨rfl, rfl, rfl⟩

/-- `SRA H` CB 00 101 100; `SLL (IX+d),B` 00 110 000 after the displacement. -/
theorem test_words_rotate :
    decodeIn .cb [0b00101100] = .ok (.sraR .h, []) ∧ decodeIn (.indexCb .ix) [0x7F, 0b00110000] = .ok (.sllIdxR .ix 0x7F .b, []) :=
  ⟨rfl, rfl⟩

/-- `BIT 5,A` CB 01 101 111; `RES 0,(HL)` CB 10 000 110; `SET 7,(IY+d)` 11 111 110; `BIT 3,(IX+d)` with a field that does not matter. -/
theorem test_words_bit :
    decodeIn .cb [0b01101111] = .ok (.bitR .o5 .a, []) ∧ decodeIn .cb [0b10000110] = .ok (.resIndHl .o0, []) ∧
    decodeIn (.indexCb .iy) [0x80, 0b11111110] = .ok (.setIdx .iy 0x80 .o7, []) ∧
    decodeIn (.indexCb .ix) [0x00, 0b01011001] = .ok (.bitIdx .ix 0x00 .o3 .o1, []) := ⟨rfl, rfl, rfl, rfl⟩

/-- `JP PE,nn` 11 101 010; `JR NC,e` 001 10 000; `RST 0x28` 11 101 111; `RETI` ED 01 001 101; `RETN` ED 01 000 101. -/
theorem test_words_control :
    decodeIn .plain [0b11101010, 0xCD, 0xAB] = .ok (.jpCcNn .pe 0xABCD, []) ∧
    decodeIn .plain [0b00110000, 0xFE] = .ok (.jrCc .nc 0xFE, []) ∧ decodeIn .plain [0b11101111] = .ok (.rst .o5, []) ∧
    decodeIn .ed [0b01001101] = .ok (.reti, []) ∧ decodeIn .ed [0b01000101] = .ok (.retn .o0, []) := ⟨rfl, rfl, rfl, rfl, rfl⟩

/-- `IN E,(C)` ED 01 011 000; `IN (C)` ED 01 110 000; `OUT (C),0` ED 01 110 001; `OTDR` ED 10 111 011. -/
theorem test_words_io :
    decodeIn .ed [0b01011000] = .ok (.inRIndC .e, []) ∧ decodeIn .ed [0b01110000] = .ok (.inIndC, []) ∧
    decodeIn .ed [0b01110001] = .ok (.outIndC0, []) ∧ decodeIn .ed [0b10111011] = .ok (.otdr, []) := ⟨rfl, rfl, rfl, rfl⟩

/-- `HALT` 01 110 110, also after DD; `IM 2` ED 01 011 110; ED 77 is undefined; DD before ED. -/
theorem test_words_cpu_control :
    decodeIn .plain [0b01110110] = .ok (.halt, []) ∧ decodeIn (.index .ix) [0b01110110] = .ok (.anyOther .ix .halt, []) ∧
    decodeIn .ed [0b01011110] = .ok (.im2 .o3, []) ∧ decodeIn .ed [0x77] = .ok (.nopEd 0x77, []) ∧
    decodeIn (.index .ix) [0xED] = .ok (.edPrefixX .ix, []) := ⟨rfl, rfl, rfl, rfl, rfl⟩

/-- Too few bytes are named as such. -/
theorem test_decode_truncated : decodeIn .plain [0xC3, 0x34] = .error .truncated := rfl

/-! ### The host's reading of a table word -/

/-- A table word is read in context None: `LD B,n`, and the DD prefix step. -/
theorem test_decodeTableWord :
    decodeTableWord 16 0x4206 = some (.ldRN .b 0x42) ∧ decodeTableWord 16 0x21DD = some .ddPrefix := ⟨rfl, rfl⟩

/-- The step after the placing runs the word as the first instruction. -/
theorem test_withFetchWord : nextHas (State.reset.withFetchWord 16 0x4206) (fun t => t.bc == 0x4200 && t.pc == 2) = true := by decide

/-! ### One step per instruction -/

/-- V40.1, R200. -/
theorem test_V40_1_ldRR :
    nextHas { withCode 0x0000 [0x41] [] with bc := 0x005A }
      (fun t => t.bc == 0x5A5A && t.pc == 0x0001 && t.r == 0x01 && t.tacts == 4) = true := by decide

/-- V40.2, R201. -/
theorem test_V40_2_ldRN :
    nextHas (withCode 0x0000 [0x3E, 0xA5] [])
      (fun t => t.af == 0xA500 && t.pc == 0x0002 && t.r == 0x01 && t.tacts == 7) = true := by decide

/-- V40.3, R202. -/
theorem test_V40_3_ldRIndHl :
    nextHas { withCode 0x0000 [0x7E] [(0x8000, 0x42)] with hl := 0x8000 }
      (fun t => t.af == 0x4200 && t.pc == 0x0001 && t.r == 0x01 && t.tacts == 7) = true := by decide

/-- V40.4, R203. -/
theorem test_V40_4_ldIndHlR :
    nextHas { withCode 0x0000 [0x73] [] with de := 0x0099, hl := 0x8000 }
      (fun t => t.pc == 0x0001 && t.r == 0x01 && t.tacts == 7 && t.read8 0x8000 == 0x99) = true := by decide

/-- V40.5, R204. -/
theorem test_V40_5_ldIndHlN :
    nextHas { withCode 0x0000 [0x36, 0x7F] [] with hl := 0x8000 }
      (fun t => t.pc == 0x0002 && t.r == 0x01 && t.tacts == 10 && t.read8 0x8000 == 0x7F) = true := by decide

/-- V40.6, R209. -/
theorem test_V40_6_ldRIdx :
    nextHas { withCode 0x0000 [0xDD, 0x7E, 0xF0] [(0x8000, 0x33)] with
      pc := 0x0001, ix := 0x8010, r := 0x01, tacts := 4, indexMode := some .ix }
      (fun t => t.af == 0x3300 && t.pc == 0x0003 && t.wz == 0x8000 && t.r == 0x02 && t.tacts == 19 && t.indexMode == none) = true := by decide

/-- V40.7, R209. -/
theorem test_V40_7_ldRIdx :
    nextHas { withCode 0x0000 [0xDD, 0x46, 0x01] [] with
      pc := 0x0001, ix := 0xFFFF, r := 0x01, tacts := 4, indexMode := some .ix }
      (fun t => t.bc == 0xDD00 && t.pc == 0x0003 && t.r == 0x02 && t.tacts == 19 && t.indexMode == none) = true := by decide

/-- V40.8, R210. -/
theorem test_V40_8_ldIdxR :
    nextHas { withCode 0x0000 [0xFD, 0x75, 0x02] [] with
      pc := 0x0001, hl := 0x0011, iy := 0x8000, r := 0x01, tacts := 4, indexMode := some .iy }
      (fun t => t.pc == 0x0003 && t.wz == 0x8002 && t.r == 0x02 && t.tacts == 19 && t.indexMode == none && t.read8 0x8002 == 0x11) = true := by decide

/-- V40.9, R211. -/
theorem test_V40_9_ldIdxN :
    nextHas { withCode 0x0000 [0xFD, 0x36, 0xFF, 0x99] [] with
      pc := 0x0001, iy := 0x8005, r := 0x01, tacts := 4, indexMode := some .iy }
      (fun t => t.pc == 0x0004 && t.wz == 0x8004 && t.r == 0x02 && t.tacts == 19 && t.indexMode == none && t.read8 0x8004 == 0x99) = true := by decide

/-- V40.10, R212. -/
theorem test_V40_10_ldXHalfN :
    nextHas { withCode 0x0000 [0xDD, 0x26, 0xAB] [] with
      pc := 0x0001, ix := 0x1234, r := 0x01, tacts := 4, indexMode := some .ix }
      (fun t => t.ix == 0xAB34 && t.pc == 0x0003 && t.r == 0x02 && t.tacts == 11 && t.indexMode == none) = true := by decide

/-- V40.11, R212. -/
theorem test_V40_11_ldRRHalves :
    nextHas { withCode 0x0000 [0xDD, 0x6C] [] with pc := 0x0001, ix := 0x1234, r := 0x01, tacts := 4, indexMode := some .ix }
      (fun t => t.ix == 0x1212 && t.pc == 0x0002 && t.r == 0x02 && t.tacts == 8 && t.indexMode == none) = true := by decide

/-- V40.13, R205. -/
theorem test_V40_13_ldAIndBc :
    nextHas { withCode 0x0000 [0x0A] [(0x8000, 0x42)] with bc := 0x8000 }
      (fun t => t.af == 0x4200 && t.pc == 0x0001 && t.wz == 0x8001 && t.r == 0x01 && t.tacts == 7) = true := by decide

/-- V40.14, R206. -/
theorem test_V40_14_ldIndDeA :
    nextHas { withCode 0x0000 [0x12] [] with af := 0x1200, de := 0x80FF }
      (fun t => t.pc == 0x0001 && t.wz == 0x1200 && t.r == 0x01 && t.tacts == 7 && t.read8 0x80FF == 0x12) = true := by decide

/-- V40.15, R207. -/
theorem test_V40_15_ldAIndNn :
    nextHas (withCode 0x0000 [0x3A, 0x34, 0x12] [(0x1234, 0x5C)])
      (fun t => t.af == 0x5C00 && t.pc == 0x0003 && t.wz == 0x1235 && t.r == 0x01 && t.tacts == 13) = true := by decide

/-- V40.16, R208. -/
theorem test_V40_16_ldIndNnA :
    nextHas { withCode 0x0000 [0x32, 0xFF, 0x80] [] with af := 0x5500 }
      (fun t => t.pc == 0x0003 && t.wz == 0x5500 && t.r == 0x01 && t.tacts == 13 && t.read8 0x80FF == 0x55) = true := by decide

/-- V40.17, R213. -/
theorem test_V40_17_ldAI :
    nextHas { withCode 0x0000 [0xED, 0x57] [] with
      pc := 0x0001, af := 0x0001, i := 0x80, r := 0x01, iff2 := true, tacts := 4, prefixMode := .extended }
      (fun t => t.af == 0x8085 && t.pc == 0x0002 && t.r == 0x02 && t.tacts == 9 && t.prefixMode == .plain) = true := by decide

/-- V40.18, R213. -/
theorem test_V40_18_ldAI :
    nextHas { withCode 0x0000 [0xED, 0x57] [] with pc := 0x0001, r := 0x01, tacts := 4, prefixMode := .extended }
      (fun t => t.af == 0x0040 && t.pc == 0x0002 && t.r == 0x02 && t.tacts == 9 && t.prefixMode == .plain) = true := by decide

/-- V40.19, R214. -/
theorem test_V40_19_ldARegR :
    nextHas { withCode 0x0000 [0xED, 0x5F] [] with pc := 0x0001, tacts := 4, prefixMode := .extended }
      (fun t => t.af == 0x0100 && t.pc == 0x0002 && t.r == 0x01 && t.tacts == 9 && t.prefixMode == .plain) = true := by decide

/-- V40.20, R214. -/
theorem test_V40_20_ldARegR :
    nextHas { withCode 0x0000 [0xED, 0x5F] [] with pc := 0x0001, r := 0x81, iff2 := true, tacts := 4, prefixMode := .extended }
      (fun t => t.af == 0x8284 && t.pc == 0x0002 && t.r == 0x82 && t.tacts == 9 && t.prefixMode == .plain) = true := by decide

/-- V40.21, R215. -/
theorem test_V40_21_ldIA :
    nextHas { withCode 0x0000 [0xED, 0x47] [] with pc := 0x0001, af := 0x3F00, r := 0x01, tacts := 4, prefixMode := .extended }
      (fun t => t.pc == 0x0002 && t.i == 0x3F && t.r == 0x02 && t.tacts == 9 && t.prefixMode == .plain) = true := by decide

/-- V40.22, R216. -/
theorem test_V40_22_ldRegRA :
    nextHas { withCode 0x0000 [0xED, 0x4F] [] with pc := 0x0001, af := 0xFF00, r := 0x01, tacts := 4, prefixMode := .extended }
      (fun t => t.pc == 0x0002 && t.r == 0xFF && t.tacts == 9 && t.prefixMode == .plain) = true := by decide

/-- V41.1, R240. -/
theorem test_V41_1_ldRpNn :
    nextHas (withCode 0x0000 [0x01, 0x34, 0x12] [])
      (fun t => t.bc == 0x1234 && t.pc == 0x0003 && t.r == 0x01 && t.tacts == 10) = true := by decide

/-- V41.2, R241. -/
theorem test_V41_2_ldXNn :
    nextHas { withCode 0x0000 [0xFD, 0x21, 0x00, 0x5C] [] with pc := 0x0001, r := 0x01, tacts := 4, indexMode := some .iy }
      (fun t => t.iy == 0x5C00 && t.pc == 0x0004 && t.r == 0x02 && t.tacts == 14 && t.indexMode == none) = true := by decide

/-- V41.3, R242. -/
theorem test_V41_3_ldHlIndNn :
    nextHas (withCode 0x0000 [0x2A, 0xFF, 0xFF] [(0xFFFF, 0x34)])
      (fun t => t.hl == 0x2A34 && t.pc == 0x0003 && t.r == 0x01 && t.tacts == 16) = true := by decide

/-- V41.4, R243. -/
theorem test_V41_4_ldIndNnHl :
    nextHas { withCode 0x0000 [0x22, 0x00, 0x80] [] with hl := 0xBEEF }
      (fun t => t.pc == 0x0003 && t.wz == 0x8001 && t.r == 0x01 && t.tacts == 16 && t.read8 0x8000 == 0xEF &&
        t.read8 0x8001 == 0xBE) = true := by decide

/-- V41.5, R247. -/
theorem test_V41_5_ldIndNnRp :
    nextHas { withCode 0x0000 [0xED, 0x73, 0x00, 0x80] [] with
      pc := 0x0001, sp := 0xABCD, r := 0x01, tacts := 4, prefixMode := .extended }
      (fun t => t.pc == 0x0004 && t.wz == 0x8001 && t.r == 0x02 && t.tacts == 20 && t.prefixMode == .plain &&
        t.read8 0x8000 == 0xCD && t.read8 0x8001 == 0xAB) = true := by decide

/-- V41.6, R246. -/
theorem test_V41_6_ldRpIndNn :
    nextHas { withCode 0x0000 [0xED, 0x4B, 0x00, 0x80] [(0x8000, 0x11), (0x8001, 0x22)] with
      pc := 0x0001, r := 0x01, tacts := 4, prefixMode := .extended }
      (fun t => t.bc == 0x2211 && t.pc == 0x0004 && t.wz == 0x8001 && t.r == 0x02 && t.tacts == 20 && t.prefixMode == .plain) = true := by decide

/-- V41.7, R248. -/
theorem test_V41_7_ldSpHl :
    nextHas { withCode 0x0000 [0xF9] [] with hl := 0x4000 }
      (fun t => t.sp == 0x4000 && t.pc == 0x0001 && t.r == 0x01 && t.tacts == 6) = true := by decide

/-- V41.8, R250. -/
theorem test_V41_8_pushRp :
    nextHas { withCode 0x0000 [0xF5] [] with af := 0x12D7 }
      (fun t => t.sp == 0xFFFE && t.pc == 0x0001 && t.r == 0x01 && t.tacts == 11 && t.read8 0xFFFE == 0xD7 &&
        t.read8 0xFFFF == 0x12) = true := by decide

/-- V41.9, R252. -/
theorem test_V41_9_popRp :
    nextHas { withCode 0x0000 [0xF1] [(0xFFFF, 0xC1)] with sp := 0xFFFF }
      (fun t => t.af == 0xF1C1 && t.sp == 0x0001 && t.pc == 0x0001 && t.r == 0x01 && t.tacts == 10) = true := by decide

/-- V41.10, R251. -/
theorem test_V41_10_pushX :
    nextHas { withCode 0x0000 [0xDD, 0xE5] [] with
      pc := 0x0001, ix := 0xA1B2, sp := 0x8000, r := 0x01, tacts := 4, indexMode := some .ix }
      (fun t => t.sp == 0x7FFE && t.pc == 0x0002 && t.r == 0x02 && t.tacts == 15 && t.indexMode == none &&
        t.read8 0x7FFE == 0xB2 && t.read8 0x7FFF == 0xA1) = true := by decide

/-- V41.11, R254. -/
theorem test_V41_11_exDeHl :
    nextHas { withCode 0x0000 [0xEB] [] with de := 0x1111, hl := 0x2222 }
      (fun t => t.de == 0x2222 && t.hl == 0x1111 && t.pc == 0x0001 && t.r == 0x01 && t.tacts == 4) = true := by decide

/-- V41.12, R254. -/
theorem test_V41_12_anyOther :
    nextHas { withCode 0x0000 [0xDD, 0xEB] [] with
      pc := 0x0001, de := 0x1111, hl := 0x2222, ix := 0x3333, r := 0x01, tacts := 4, indexMode := some .ix }
      (fun t => t.de == 0x2222 && t.hl == 0x1111 && t.pc == 0x0002 && t.r == 0x02 && t.tacts == 8 && t.indexMode == none) = true := by decide

/-- V41.13, R255. -/
theorem test_V41_13_exIndSpHl :
    nextHas { withCode 0x0000 [0xE3] [(0x8000, 0x78), (0x8001, 0x56)] with hl := 0x1234, sp := 0x8000 }
      (fun t => t.hl == 0x5678 && t.pc == 0x0001 && t.wz == 0x5678 && t.r == 0x01 && t.tacts == 19 && t.read8 0x8000 == 0x34 &&
        t.read8 0x8001 == 0x12) = true := by decide

/-- V41.14, R258. -/
theorem test_V41_14_exIndSpX :
    nextHas { withCode 0x0000 [0xFD, 0xE3] [(0x8000, 0x78), (0x8001, 0x56)] with
      pc := 0x0001, iy := 0x1234, sp := 0x8000, r := 0x01, tacts := 4, indexMode := some .iy }
      (fun t => t.iy == 0x5678 && t.pc == 0x0002 && t.wz == 0x5678 && t.r == 0x02 && t.tacts == 23 && t.indexMode == none &&
        t.read8 0x8000 == 0x34 && t.read8 0x8001 == 0x12) = true := by decide

/-- V41.15, R256. -/
theorem test_V41_15_exAfAf :
    nextHas { withCode 0x0000 [0x08] [] with af := 0x1234, afShadow := 0x5678 }
      (fun t => t.af == 0x5678 && t.afShadow == 0x1234 && t.pc == 0x0001 && t.r == 0x01 && t.tacts == 4) = true := by decide

/-- V41.16, R257. -/
theorem test_V41_16_exx :
    nextHas { withCode 0x0000 [0xD9] [] with
      af := 0x7777, bc := 0x0001, de := 0x0002, hl := 0x0003, bcShadow := 0x0004, deShadow := 0x0005, hlShadow := 0x0006 }
      (fun t => t.bc == 0x0004 && t.de == 0x0005 && t.hl == 0x0006 && t.bcShadow == 0x0001 && t.deShadow == 0x0002 &&
        t.hlShadow == 0x0003 && t.pc == 0x0001 && t.r == 0x01 && t.tacts == 4) = true := by decide

/-- V42.1, R280. -/
theorem test_V42_1_ldi :
    nextHas { withCode 0x0000 [0xED, 0xA0] [(0x8000, 0x08)] with
      pc := 0x0001, bc := 0x0001, de := 0x9000, hl := 0x8000, r := 0x01, tacts := 4, prefixMode := .extended }
      (fun t => t.af == 0x0008 && t.bc == 0x0000 && t.de == 0x9001 && t.hl == 0x8001 && t.pc == 0x0002 && t.r == 0x02 &&
        t.tacts == 16 && t.prefixMode == .plain && t.read8 0x9000 == 0x08) = true := by decide

/-- V42.2, R280. -/
theorem test_V42_2_ldi :
    nextHas { withCode 0x0000 [0xED, 0xA0] [(0x8000, 0x22)] with
      pc := 0x0001, bc := 0x0002, de := 0x9000, hl := 0x8000, r := 0x01, tacts := 4, prefixMode := .extended }
      (fun t => t.af == 0x0024 && t.bc == 0x0001 && t.de == 0x9001 && t.hl == 0x8001 && t.pc == 0x0002 && t.r == 0x02 &&
        t.tacts == 16 && t.prefixMode == .plain && t.read8 0x9000 == 0x22) = true := by decide

/-- V42.4, R282. -/
theorem test_V42_4_ldir :
    nextHas { withCode 0x0000 [0xED, 0xB0] [(0x8000, 0x01), (0x8001, 0x02), (0x8002, 0x03)] with
      pc := 0x0001, bc := 0x0003, de := 0x9000, hl := 0x8000, r := 0x01, tacts := 4, prefixMode := .extended }
      (fun t => t.af == 0x0004 && t.bc == 0x0002 && t.de == 0x9001 && t.hl == 0x8001 && t.pc == 0x0000 && t.wz == 0x0001 &&
        t.r == 0x02 && t.tacts == 21 && t.prefixMode == .plain && t.read8 0x9000 == 0x01) = true := by decide

/-- V42.6, R284. -/
theorem test_V42_6_cpi :
    nextHas { withCode 0x0000 [0xED, 0xA1] [(0x8000, 0x10)] with
      pc := 0x0001, af := 0x1000, bc := 0x0005, hl := 0x8000, r := 0x01, tacts := 4, prefixMode := .extended }
      (fun t => t.af == 0x1046 && t.bc == 0x0004 && t.hl == 0x8001 && t.pc == 0x0002 && t.wz == 0x0001 && t.r == 0x02 &&
        t.tacts == 16 && t.prefixMode == .plain) = true := by decide

/-- V42.7, R284. -/
theorem test_V42_7_cpi :
    nextHas { withCode 0x0000 [0xED, 0xA1] [(0x8000, 0x01)] with
      pc := 0x0001, af := 0x0001, bc := 0x0001, hl := 0x8000, r := 0x01, tacts := 4, prefixMode := .extended }
      (fun t => t.af == 0x00BB && t.bc == 0x0000 && t.hl == 0x8001 && t.pc == 0x0002 && t.wz == 0x0001 && t.r == 0x02 &&
        t.tacts == 16 && t.prefixMode == .plain) = true := by decide

/-- V43.1, R306. -/
theorem test_V43_1_addN :
    nextHas { withCode 0x0000 [0xC6, 0x01] [] with af := 0x7F00 }
      (fun t => t.af == 0x8094 && t.pc == 0x0002 && t.r == 0x01 && t.tacts == 7) = true := by decide

/-- V43.2, R306. -/
theorem test_V43_2_addN :
    nextHas { withCode 0x0000 [0xC6, 0x01] [] with af := 0xFF00 }
      (fun t => t.af == 0x0051 && t.pc == 0x0002 && t.r == 0x01 && t.tacts == 7) = true := by decide

/-- V43.3, R306. -/
theorem test_V43_3_addR :
    nextHas { withCode 0x0000 [0x80] [] with af := 0x0E00, bc := 0x0100 }
      (fun t => t.af == 0x0F08 && t.pc == 0x0001 && t.r == 0x01 && t.tacts == 4) = true := by decide

/-- V43.4, R307. -/
theorem test_V43_4_adcN :
    nextHas { withCode 0x0000 [0xCE, 0x00] [] with af := 0x0F01 }
      (fun t => t.af == 0x1010 && t.pc == 0x0002 && t.r == 0x01 && t.tacts == 7) = true := by decide

/-- V43.5, R308. -/
theorem test_V43_5_subN :
    nextHas { withCode 0x0000 [0xD6, 0x01] [] with af := 0x8000 }
      (fun t => t.af == 0x7F3E && t.pc == 0x0002 && t.r == 0x01 && t.tacts == 7) = true := by decide

/-- V43.6, R308. -/
theorem test_V43_6_subN :
    nextHas (withCode 0x0000 [0xD6, 0x01] [])
      (fun t => t.af == 0xFFBB && t.pc == 0x0002 && t.r == 0x01 && t.tacts == 7) = true := by decide

/-- V43.7, R309. -/
theorem test_V43_7_sbcN :
    nextHas { withCode 0x0000 [0xDE, 0x10] [] with af := 0x1001 }
      (fun t => t.af == 0xFFBB && t.pc == 0x0002 && t.r == 0x01 && t.tacts == 7) = true := by decide

/-- V43.8, R310. -/
theorem test_V43_8_andN :
    nextHas { withCode 0x0000 [0xE6, 0x3C] [] with af := 0xF000 }
      (fun t => t.af == 0x3034 && t.pc == 0x0002 && t.r == 0x01 && t.tacts == 7) = true := by decide

/-- V43.9, R311. -/
theorem test_V43_9_xorR :
    nextHas { withCode 0x0000 [0xAF] [] with af := 0x5AFF }
      (fun t => t.af == 0x0044 && t.pc == 0x0001 && t.r == 0x01 && t.tacts == 4) = true := by decide

/-- V43.10, R312. -/
theorem test_V43_10_orN :
    nextHas { withCode 0x0000 [0xF6, 0x01] [] with af := 0x8000 }
      (fun t => t.af == 0x8184 && t.pc == 0x0002 && t.r == 0x01 && t.tacts == 7) = true := by decide

/-- V43.11, R313. -/
theorem test_V43_11_cpN :
    nextHas (withCode 0x0000 [0xFE, 0x28] [])
      (fun t => t.af == 0x00BB && t.pc == 0x0002 && t.r == 0x01 && t.tacts == 7) = true := by decide

/-- V43.12, R313. -/
theorem test_V43_12_cpN :
    nextHas { withCode 0x0000 [0xFE, 0x42] [] with af := 0x4200 }
      (fun t => t.af == 0x4242 && t.pc == 0x0002 && t.r == 0x01 && t.tacts == 7) = true := by decide

/-- V43.13, R306. -/
theorem test_V43_13_addXHalf :
    nextHas { withCode 0x0000 [0xDD, 0x84] [] with
      pc := 0x0001, af := 0x0100, ix := 0x7F00, r := 0x01, tacts := 4, indexMode := some .ix }
      (fun t => t.af == 0x8094 && t.pc == 0x0002 && t.r == 0x02 && t.tacts == 8 && t.indexMode == none) = true := by decide

/-- V43.14, R314. -/
theorem test_V43_14_incR :
    nextHas { withCode 0x0000 [0x04] [] with af := 0x0001, bc := 0x7F00 }
      (fun t => t.af == 0x0095 && t.bc == 0x8000 && t.pc == 0x0001 && t.r == 0x01 && t.tacts == 4) = true := by decide

/-- V43.15, R314. -/
theorem test_V43_15_incR :
    nextHas { withCode 0x0000 [0x3C] [] with af := 0xFF00 }
      (fun t => t.af == 0x0050 && t.pc == 0x0001 && t.r == 0x01 && t.tacts == 4) = true := by decide

/-- V43.16, R317. -/
theorem test_V43_16_decR :
    nextHas { withCode 0x0000 [0x0D] [] with bc := 0x0080 }
      (fun t => t.af == 0x003E && t.bc == 0x007F && t.pc == 0x0001 && t.r == 0x01 && t.tacts == 4) = true := by decide

/-- V43.17, R317. -/
theorem test_V43_17_decR :
    nextHas (withCode 0x0000 [0x0D] [])
      (fun t => t.af == 0x00BA && t.bc == 0x00FF && t.pc == 0x0001 && t.r == 0x01 && t.tacts == 4) = true := by decide

/-- V43.18, R315. -/
theorem test_V43_18_incIndHl :
    nextHas { withCode 0x0000 [0x34] [(0x8000, 0x0F)] with hl := 0x8000 }
      (fun t => t.af == 0x0010 && t.pc == 0x0001 && t.r == 0x01 && t.tacts == 11 && t.read8 0x8000 == 0x10) = true := by decide

/-- V43.19, R319. -/
theorem test_V43_19_decIdx :
    nextHas { withCode 0x0000 [0xFD, 0x35, 0x01] [(0x8001, 0x44)] with
      pc := 0x0001, iy := 0x8000, r := 0x01, tacts := 4, indexMode := some .iy }
      (fun t => t.af == 0x0002 && t.pc == 0x0003 && t.wz == 0x8001 && t.r == 0x02 && t.tacts == 23 && t.indexMode == none &&
        t.read8 0x8001 == 0x43) = true := by decide

/-- V43.20, R320. -/
theorem test_V43_20_daa :
    nextHas { withCode 0x0000 [0x27] [] with af := 0x3C00 }
      (fun t => t.af == 0x4214 && t.pc == 0x0001 && t.r == 0x01 && t.tacts == 4) = true := by decide

/-- V43.21, R320. -/
theorem test_V43_21_daa :
    nextHas { withCode 0x0000 [0x27] [] with af := 0x9A00 }
      (fun t => t.af == 0x0055 && t.pc == 0x0001 && t.r == 0x01 && t.tacts == 4) = true := by decide

/-- V43.23, R321. -/
theorem test_V43_23_cpl :
    nextHas { withCode 0x0000 [0x2F] [] with af := 0x5A00 }
      (fun t => t.af == 0xA532 && t.pc == 0x0001 && t.r == 0x01 && t.tacts == 4) = true := by decide

/-- V43.24, R322. -/
theorem test_V43_24_neg :
    nextHas { withCode 0x0000 [0xED, 0x44] [] with pc := 0x0001, af := 0x8000, r := 0x01, tacts := 4, prefixMode := .extended }
      (fun t => t.af == 0x8087 && t.pc == 0x0002 && t.r == 0x02 && t.tacts == 8 && t.prefixMode == .plain) = true := by decide

/-- V43.25, R322. -/
theorem test_V43_25_neg :
    nextHas { withCode 0x0000 [0xED, 0x44] [] with pc := 0x0001, r := 0x01, tacts := 4, prefixMode := .extended }
      (fun t => t.af == 0x0042 && t.pc == 0x0002 && t.r == 0x02 && t.tacts == 8 && t.prefixMode == .plain) = true := by decide

/-- V43.27, R323. -/
theorem test_V43_27_scf :
    nextHas { withCode 0x0000 [0x37] [] with af := 0x2800 }
      (fun t => t.af == 0x2829 && t.pc == 0x0001 && t.r == 0x01 && t.tacts == 4) = true := by decide

/-- V43.28, R324. -/
theorem test_V43_28_ccf :
    nextHas { withCode 0x0000 [0x3F] [] with af := 0x0001 }
      (fun t => t.af == 0x0010 && t.pc == 0x0001 && t.r == 0x01 && t.tacts == 4) = true := by decide

/-- V44.1, R350. -/
theorem test_V44_1_addHlRp :
    nextHas { withCode 0x0000 [0x19] [] with de := 0x0001, hl := 0x0FFF }
      (fun t => t.af == 0x0010 && t.hl == 0x1000 && t.pc == 0x0001 && t.wz == 0x1000 && t.r == 0x01 && t.tacts == 11) = true := by decide

/-- V44.2, R350. -/
theorem test_V44_2_addHlRp :
    nextHas { withCode 0x0000 [0x29] [] with af := 0x00C4, hl := 0x8000 }
      (fun t => t.af == 0x00C5 && t.hl == 0x0000 && t.pc == 0x0001 && t.wz == 0x8001 && t.r == 0x01 && t.tacts == 11) = true := by decide

/-- V44.3, R351. -/
theorem test_V44_3_addXRp :
    nextHas { withCode 0x0000 [0xDD, 0x29] [] with pc := 0x0001, ix := 0x2000, r := 0x01, tacts := 4, indexMode := some .ix }
      (fun t => t.ix == 0x4000 && t.pc == 0x0002 && t.wz == 0x2001 && t.r == 0x02 && t.tacts == 15 && t.indexMode == none) = true := by decide

/-- V44.4, R351. -/
theorem test_V44_4_addXRp :
    nextHas { withCode 0x0000 [0xFD, 0x39] [] with
      pc := 0x0001, iy := 0xFFFF, sp := 0x0001, r := 0x01, tacts := 4, indexMode := some .iy }
      (fun t => t.af == 0x0011 && t.iy == 0x0000 && t.pc == 0x0002 && t.r == 0x02 && t.tacts == 15 && t.indexMode == none) = true := by decide

/-- V44.5, R352. -/
theorem test_V44_5_adcHlRp :
    nextHas { withCode 0x0000 [0xED, 0x4A] [] with
      pc := 0x0001, af := 0x0001, hl := 0x7FFF, r := 0x01, tacts := 4, prefixMode := .extended }
      (fun t => t.af == 0x0094 && t.hl == 0x8000 && t.pc == 0x0002 && t.wz == 0x8000 && t.r == 0x02 && t.tacts == 15 &&
        t.prefixMode == .plain) = true := by decide

/-- V44.6, R353. -/
theorem test_V44_6_sbcHlRp :
    nextHas { withCode 0x0000 [0xED, 0x52] [] with
      pc := 0x0001, de := 0x1234, hl := 0x1234, r := 0x01, tacts := 4, prefixMode := .extended }
      (fun t => t.af == 0x0042 && t.hl == 0x0000 && t.pc == 0x0002 && t.wz == 0x1235 && t.r == 0x02 && t.tacts == 15 &&
        t.prefixMode == .plain) = true := by decide

/-- V44.7, R353. -/
theorem test_V44_7_sbcHlRp :
    nextHas { withCode 0x0000 [0xED, 0x52] [] with pc := 0x0001, af := 0x0001, r := 0x01, tacts := 4, prefixMode := .extended }
      (fun t => t.af == 0x00BB && t.hl == 0xFFFF && t.pc == 0x0002 && t.wz == 0x0001 && t.r == 0x02 && t.tacts == 15 &&
        t.prefixMode == .plain) = true := by decide

/-- V44.8, R354. -/
theorem test_V44_8_incRp :
    nextHas { withCode 0x0000 [0x03] [] with bc := 0xFFFF }
      (fun t => t.bc == 0x0000 && t.pc == 0x0001 && t.r == 0x01 && t.tacts == 6) = true := by decide

/-- V44.9, R355. -/
theorem test_V44_9_decRp :
    nextHas (withCode 0x0000 [0x3B] [])
      (fun t => t.sp == 0xFFFF && t.pc == 0x0001 && t.r == 0x01 && t.tacts == 6) = true := by decide

/-- V44.10, R356. -/
theorem test_V44_10_incX :
    nextHas { withCode 0x0000 [0xDD, 0x23] [] with pc := 0x0001, ix := 0x00FF, r := 0x01, tacts := 4, indexMode := some .ix }
      (fun t => t.ix == 0x0100 && t.pc == 0x0002 && t.r == 0x02 && t.tacts == 10 && t.indexMode == none) = true := by decide

/-- V45.1, R370. -/
theorem test_V45_1_rlca :
    nextHas { withCode 0x0000 [0x07] [] with af := 0x81C4 }
      (fun t => t.af == 0x03C5 && t.pc == 0x0001 && t.r == 0x01 && t.tacts == 4) = true := by decide

/-- V45.2, R371. -/
theorem test_V45_2_rrca :
    nextHas { withCode 0x0000 [0x0F] [] with af := 0x0100 }
      (fun t => t.af == 0x8001 && t.pc == 0x0001 && t.r == 0x01 && t.tacts == 4) = true := by decide

/-- V45.3, R372. -/
theorem test_V45_3_rla :
    nextHas { withCode 0x0000 [0x17] [] with af := 0x8000 }
      (fun t => t.af == 0x0001 && t.pc == 0x0001 && t.r == 0x01 && t.tacts == 4) = true := by decide

/-- V45.4, R373. -/
theorem test_V45_4_rra :
    nextHas { withCode 0x0000 [0x1F] [] with af := 0x0101 }
      (fun t => t.af == 0x8001 && t.pc == 0x0001 && t.r == 0x01 && t.tacts == 4) = true := by decide

/-- V45.5, R375. -/
theorem test_V45_5_rlcR :
    nextHas { withCode 0x0000 [0xCB, 0x00] [] with pc := 0x0001, bc := 0x8000, r := 0x01, tacts := 4, prefixMode := .bit }
      (fun t => t.af == 0x0001 && t.bc == 0x0100 && t.pc == 0x0002 && t.r == 0x02 && t.tacts == 8 && t.prefixMode == .plain) = true := by decide

/-- V45.6, R376. -/
theorem test_V45_6_rrcIndHl :
    nextHas { withCode 0x0000 [0xCB, 0x0E] [(0x8000, 0x01)] with
      pc := 0x0001, hl := 0x8000, r := 0x01, tacts := 4, prefixMode := .bit }
      (fun t => t.af == 0x0081 && t.pc == 0x0002 && t.r == 0x02 && t.tacts == 15 && t.prefixMode == .plain &&
        t.read8 0x8000 == 0x80) = true := by decide

/-- V45.7, R377. -/
theorem test_V45_7_rlR :
    nextHas { withCode 0x0000 [0xCB, 0x11] [] with pc := 0x0001, bc := 0x0080, r := 0x01, tacts := 4, prefixMode := .bit }
      (fun t => t.af == 0x0045 && t.bc == 0x0000 && t.pc == 0x0002 && t.r == 0x02 && t.tacts == 8 && t.prefixMode == .plain) = true := by decide

/-- V45.8, R378. -/
theorem test_V45_8_rrR :
    nextHas { withCode 0x0000 [0xCB, 0x1A] [] with
      pc := 0x0001, af := 0x0001, de := 0x0100, r := 0x01, tacts := 4, prefixMode := .bit }
      (fun t => t.af == 0x0081 && t.de == 0x8000 && t.pc == 0x0002 && t.r == 0x02 && t.tacts == 8 && t.prefixMode == .plain) = true := by decide

/-- V45.9, R379. -/
theorem test_V45_9_slaR :
    nextHas { withCode 0x0000 [0xCB, 0x23] [] with pc := 0x0001, de := 0x0080, r := 0x01, tacts := 4, prefixMode := .bit }
      (fun t => t.af == 0x0045 && t.de == 0x0000 && t.pc == 0x0002 && t.r == 0x02 && t.tacts == 8 && t.prefixMode == .plain) = true := by decide

/-- V45.10, R380. -/
theorem test_V45_10_sraR :
    nextHas { withCode 0x0000 [0xCB, 0x2C] [] with pc := 0x0001, hl := 0x8100, r := 0x01, tacts := 4, prefixMode := .bit }
      (fun t => t.af == 0x0085 && t.hl == 0xC000 && t.pc == 0x0002 && t.r == 0x02 && t.tacts == 8 && t.prefixMode == .plain) = true := by decide

/-- V45.11, R381. -/
theorem test_V45_11_sllR :
    nextHas { withCode 0x0000 [0xCB, 0x35] [] with pc := 0x0001, hl := 0x0001, r := 0x01, tacts := 4, prefixMode := .bit }
      (fun t => t.af == 0x0004 && t.hl == 0x0003 && t.pc == 0x0002 && t.r == 0x02 && t.tacts == 8 && t.prefixMode == .plain) = true := by decide

/-- V45.12, R382. -/
theorem test_V45_12_srlR :
    nextHas { withCode 0x0000 [0xCB, 0x3F] [] with pc := 0x0001, af := 0x0100, r := 0x01, tacts := 4, prefixMode := .bit }
      (fun t => t.af == 0x0045 && t.pc == 0x0002 && t.r == 0x02 && t.tacts == 8 && t.prefixMode == .plain) = true := by decide

/-- V45.13, R375. -/
theorem test_V45_13_rlcIdxR :
    nextHas { withCode 0x0000 [0xDD, 0xCB, 0x02, 0x00] [(0x8002, 0x81)] with
      pc := 0x0002, ix := 0x8000, r := 0x02, tacts := 8, prefixMode := .bit, indexMode := some .ix }
      (fun t => t.af == 0x0005 && t.bc == 0x0300 && t.pc == 0x0004 && t.wz == 0x8002 && t.tacts == 23 && t.indexMode == none &&
        t.prefixMode == .plain && t.read8 0x8002 == 0x03) = true := by decide

/-- V45.14, R381. -/
theorem test_V45_14_sllIdx :
    nextHas { withCode 0x0000 [0xFD, 0xCB, 0xFF, 0x36] [(0x7FFF, 0x80)] with
      pc := 0x0002, iy := 0x8000, r := 0x02, tacts := 8, prefixMode := .bit, indexMode := some .iy }
      (fun t => t.af == 0x0001 && t.pc == 0x0004 && t.wz == 0x7FFF && t.tacts == 23 && t.indexMode == none &&
        t.prefixMode == .plain && t.read8 0x7FFF == 0x01) = true := by decide

/-- V45.15, R383. -/
theorem test_V45_15_rld :
    nextHas { withCode 0x0000 [0xED, 0x6F] [(0x8000, 0x34)] with
      pc := 0x0001, af := 0x1200, hl := 0x8000, r := 0x01, tacts := 4, prefixMode := .extended }
      (fun t => t.af == 0x1300 && t.pc == 0x0002 && t.wz == 0x8001 && t.r == 0x02 && t.tacts == 18 && t.prefixMode == .plain &&
        t.read8 0x8000 == 0x42) = true := by decide

/-- V45.16, R384. -/
theorem test_V45_16_rrd :
    nextHas { withCode 0x0000 [0xED, 0x67] [(0x8000, 0x34)] with
      pc := 0x0001, af := 0x1200, hl := 0x8000, r := 0x01, tacts := 4, prefixMode := .extended }
      (fun t => t.af == 0x1404 && t.pc == 0x0002 && t.wz == 0x8001 && t.r == 0x02 && t.tacts == 18 && t.prefixMode == .plain &&
        t.read8 0x8000 == 0x23) = true := by decide

/-- V46.1, R400. -/
theorem test_V46_1_bitR :
    nextHas { withCode 0x0000 [0xCB, 0x7C] [] with pc := 0x0001, hl := 0x8000, r := 0x01, tacts := 4, prefixMode := .bit }
      (fun t => t.af == 0x0090 && t.pc == 0x0002 && t.r == 0x02 && t.tacts == 8 && t.prefixMode == .plain) = true := by decide

/-- V46.2, R400. -/
theorem test_V46_2_bitR :
    nextHas { withCode 0x0000 [0xCB, 0x47] [] with pc := 0x0001, af := 0x2801, r := 0x01, tacts := 4, prefixMode := .bit }
      (fun t => t.af == 0x287D && t.pc == 0x0002 && t.r == 0x02 && t.tacts == 8 && t.prefixMode == .plain) = true := by decide

/-- V46.3, R401. -/
theorem test_V46_3_bitIndHl :
    nextHas { withCode 0x0000 [0xCB, 0x5E] [(0x8000, 0x00)] with
      pc := 0x0001, hl := 0x8000, wz := 0x2800, r := 0x01, tacts := 4, prefixMode := .bit }
      (fun t => t.af == 0x007C && t.pc == 0x0002 && t.r == 0x02 && t.tacts == 12 && t.prefixMode == .plain) = true := by decide

/-- V46.4, R402. -/
theorem test_V46_4_bitIdx :
    nextHas { withCode 0x0000 [0xDD, 0xCB, 0x10, 0x4E] [(0x8000, 0x02)] with
      pc := 0x0002, ix := 0x7FF0, r := 0x02, tacts := 8, prefixMode := .bit, indexMode := some .ix }
      (fun t => t.af == 0x0010 && t.pc == 0x0004 && t.wz == 0x8000 && t.tacts == 20 && t.indexMode == none &&
        t.prefixMode == .plain) = true := by decide

/-- V46.5, R402. -/
theorem test_V46_5_bitIdx :
    nextHas { withCode 0x0000 [0xDD, 0xCB, 0x00, 0x48] [(0x8000, 0x00)] with
      pc := 0x0002, ix := 0x8000, r := 0x02, tacts := 8, prefixMode := .bit, indexMode := some .ix }
      (fun t => t.af == 0x0054 && t.pc == 0x0004 && t.wz == 0x8000 && t.tacts == 20 && t.indexMode == none &&
        t.prefixMode == .plain) = true := by decide

/-- V46.6, R403. -/
theorem test_V46_6_resR :
    nextHas { withCode 0x0000 [0xCB, 0x87] [] with pc := 0x0001, af := 0xFF00, r := 0x01, tacts := 4, prefixMode := .bit }
      (fun t => t.af == 0xFE00 && t.pc == 0x0002 && t.r == 0x02 && t.tacts == 8 && t.prefixMode == .plain) = true := by decide

/-- V46.7, R405. -/
theorem test_V46_7_resIdxR :
    nextHas { withCode 0x0000 [0xDD, 0xCB, 0x01, 0x81] [(0x8001, 0xFF)] with
      pc := 0x0002, ix := 0x8000, r := 0x02, tacts := 8, prefixMode := .bit, indexMode := some .ix }
      (fun t => t.bc == 0x00FE && t.pc == 0x0004 && t.wz == 0x8001 && t.tacts == 23 && t.indexMode == none &&
        t.prefixMode == .plain && t.read8 0x8001 == 0xFE) = true := by decide

/-- V46.8, R406. -/
theorem test_V46_8_setR :
    nextHas { withCode 0x0000 [0xCB, 0xFF] [] with pc := 0x0001, r := 0x01, tacts := 4, prefixMode := .bit }
      (fun t => t.af == 0x8000 && t.pc == 0x0002 && t.r == 0x02 && t.tacts == 8 && t.prefixMode == .plain) = true := by decide

/-- V46.9, R407. -/
theorem test_V46_9_setIndHl :
    nextHas { withCode 0x0000 [0xCB, 0xC6] [(0x8000, 0x00)] with
      pc := 0x0001, hl := 0x8000, r := 0x01, tacts := 4, prefixMode := .bit }
      (fun t => t.pc == 0x0002 && t.r == 0x02 && t.tacts == 15 && t.prefixMode == .plain && t.read8 0x8000 == 0x01) = true := by decide

/-- V46.10, R408. -/
theorem test_V46_10_setIdx :
    nextHas { withCode 0x0000 [0xFD, 0xCB, 0xFF, 0xC6] [(0x7FFF, 0x00)] with
      pc := 0x0002, iy := 0x8000, r := 0x02, tacts := 8, prefixMode := .bit, indexMode := some .iy }
      (fun t => t.pc == 0x0004 && t.wz == 0x7FFF && t.tacts == 23 && t.indexMode == none && t.prefixMode == .plain &&
        t.read8 0x7FFF == 0x01) = true := by decide

/-- V47.1, R420. -/
theorem test_V47_1_jpNn :
    nextHas (withCode 0x0000 [0xC3, 0x34, 0x12] [])
      (fun t => t.pc == 0x1234 && t.wz == 0x1234 && t.r == 0x01 && t.tacts == 10) = true := by decide

/-- V47.2, R421. -/
theorem test_V47_2_jpCcNn :
    nextHas { withCode 0x0000 [0xC2, 0x34, 0x12] [] with af := 0x0040 }
      (fun t => t.pc == 0x0003 && t.wz == 0x1234 && t.r == 0x01 && t.tacts == 10) = true := by decide

/-- V47.3, R422. -/
theorem test_V47_3_jr :
    nextHas (withCode 0x0100 [0x18, 0x05] [])
      (fun t => t.pc == 0x0107 && t.wz == 0x0107 && t.r == 0x01 && t.tacts == 12) = true := by decide

/-- V47.4, R422. -/
theorem test_V47_4_jr :
    nextHas (withCode 0x0100 [0x18, 0xFE] [])
      (fun t => t.pc == 0x0100 && t.wz == 0x0100 && t.r == 0x01 && t.tacts == 12) = true := by decide

/-- V47.6, R423. -/
theorem test_V47_6_jrCc :
    nextHas { withCode 0x0100 [0x30, 0x10] [] with af := 0x0001 }
      (fun t => t.pc == 0x0102 && t.r == 0x01 && t.tacts == 7) = true := by decide

/-- V47.7, R424. -/
theorem test_V47_7_djnz :
    nextHas { withCode 0x0100 [0x10, 0xFE] [] with bc := 0x0200 }
      (fun t => t.bc == 0x0100 && t.pc == 0x0100 && t.wz == 0x0100 && t.r == 0x01 && t.tacts == 13) = true := by decide

/-- V47.8, R424. -/
theorem test_V47_8_djnz :
    nextHas { withCode 0x0100 [0x10, 0xFE] [] with bc := 0x0100 }
      (fun t => t.bc == 0x0000 && t.pc == 0x0102 && t.r == 0x01 && t.tacts == 8) = true := by decide

/-- V47.10, R425. -/
theorem test_V47_10_jpIndHl :
    nextHas { withCode 0x0000 [0xE9] [] with hl := 0x4000 }
      (fun t => t.pc == 0x4000 && t.r == 0x01 && t.tacts == 4) = true := by decide

/-- V47.11, R426. -/
theorem test_V47_11_jpX :
    nextHas { withCode 0x0000 [0xFD, 0xE9] [] with pc := 0x0001, iy := 0x4000, r := 0x01, tacts := 4, indexMode := some .iy }
      (fun t => t.pc == 0x4000 && t.r == 0x02 && t.tacts == 8 && t.indexMode == none) = true := by decide

/-- V47.12, R427. -/
theorem test_V47_12_callNn :
    nextHas { withCode 0x0100 [0xCD, 0x00, 0x20] [] with sp := 0x8000 }
      (fun t => t.sp == 0x7FFE && t.pc == 0x2000 && t.wz == 0x2000 && t.r == 0x01 && t.tacts == 17 && t.read8 0x7FFE == 0x03 &&
        t.read8 0x7FFF == 0x01) = true := by decide

/-- V47.13, R428. -/
theorem test_V47_13_callCcNn :
    nextHas { withCode 0x0100 [0xCC, 0x00, 0x20] [] with sp := 0x8000 }
      (fun t => t.pc == 0x0103 && t.wz == 0x2000 && t.r == 0x01 && t.tacts == 10) = true := by decide

/-- V47.14, R429. -/
theorem test_V47_14_ret :
    nextHas { withCode 0x0000 [0xC9] [(0x7FFE, 0x03), (0x7FFF, 0x01)] with sp := 0x7FFE }
      (fun t => t.sp == 0x8000 && t.pc == 0x0103 && t.wz == 0x0103 && t.r == 0x01 && t.tacts == 10) = true := by decide

/-- V47.15, R430. -/
theorem test_V47_15_retCc :
    nextHas { withCode 0x0000 [0xF0] [(0x7FFE, 0x03), (0x7FFF, 0x01)] with af := 0x0080, sp := 0x7FFE }
      (fun t => t.pc == 0x0001 && t.r == 0x01 && t.tacts == 5) = true := by decide

/-- V47.16, R430. -/
theorem test_V47_16_retCc :
    nextHas { withCode 0x0000 [0xE8] [(0x7FFE, 0x03), (0x7FFF, 0x01)] with af := 0x0004, sp := 0x7FFE }
      (fun t => t.sp == 0x8000 && t.pc == 0x0103 && t.wz == 0x0103 && t.r == 0x01 && t.tacts == 11) = true := by decide

/-- V47.17, R431. -/
theorem test_V47_17_reti :
    nextHas { withCode 0x0000 [0xED, 0x4D] [(0x7FFE, 0x03), (0x7FFF, 0x01)] with
      pc := 0x0001, sp := 0x7FFE, r := 0x01, iff2 := true, tacts := 4, prefixMode := .extended }
      (fun t => t.sp == 0x8000 && t.pc == 0x0103 && t.wz == 0x0103 && t.r == 0x02 && t.iff1 == true && t.tacts == 14 &&
        t.prefixMode == .plain) = true := by decide

/-- V47.18, R432. -/
theorem test_V47_18_retn :
    nextHas { withCode 0x0000 [0xED, 0x7D] [(0x7FFE, 0x03), (0x7FFF, 0x01)] with
      pc := 0x0001, sp := 0x7FFE, r := 0x01, iff1 := true, tacts := 4, prefixMode := .extended }
      (fun t => t.sp == 0x8000 && t.pc == 0x0103 && t.wz == 0x0103 && t.r == 0x02 && t.iff1 == false && t.tacts == 14 &&
        t.prefixMode == .plain) = true := by decide

/-- V47.19, R433. -/
theorem test_V47_19_rst :
    nextHas { withCode 0x0200 [0xFF] [] with sp := 0x8000 }
      (fun t => t.sp == 0x7FFE && t.pc == 0x0038 && t.wz == 0x0038 && t.r == 0x01 && t.tacts == 11 && t.read8 0x7FFE == 0x01 &&
        t.read8 0x7FFF == 0x02) = true := by decide

/-- V48.1, R460. -/
theorem test_V48_1_inAIndN :
    nextHas { withCode 0x0000 [0xDB, 0xFE] [] with af := 0x7F00, portIn := [0xBF] }
      (fun t => t.af == 0xBF00 && t.pc == 0x0002 && t.wz == 0x7FFF && t.r == 0x01 && t.tacts == 11) = true := by decide

/-- V48.2, R461. -/
theorem test_V48_2_outIndNA :
    nextHas { withCode 0x0000 [0xD3, 0xFE] [] with af := 0x0200 }
      (fun t => t.pc == 0x0002 && t.wz == 0x02FF && t.r == 0x01 && t.tacts == 11 && t.portOut == [(0x02FE, 0x02)]) = true := by decide

/-- V48.3, R461. -/
theorem test_V48_3_outIndNA :
    nextHas { withCode 0x0000 [0xD3, 0xFF] [] with af := 0x0200 }
      (fun t => t.pc == 0x0002 && t.wz == 0x0200 && t.r == 0x01 && t.tacts == 11 && t.portOut == [(0x02FF, 0x02)]) = true := by decide

/-- V48.4, R462. -/
theorem test_V48_4_inRIndC :
    nextHas { withCode 0x0000 [0xED, 0x78] [] with
      pc := 0x0001, af := 0x0001, bc := 0xFEFE, r := 0x01, tacts := 4, prefixMode := .extended, portIn := [0x00] }
      (fun t => t.af == 0x0045 && t.pc == 0x0002 && t.wz == 0xFEFF && t.r == 0x02 && t.tacts == 12 && t.prefixMode == .plain) = true := by decide

/-- V48.5, R462. -/
theorem test_V48_5_inRIndC :
    nextHas { withCode 0x0000 [0xED, 0x48] [] with
      pc := 0x0001, bc := 0x12FE, r := 0x01, tacts := 4, prefixMode := .extended, portIn := [0x81] }
      (fun t => t.af == 0x0084 && t.bc == 0x1281 && t.pc == 0x0002 && t.wz == 0x12FF && t.r == 0x02 && t.tacts == 12 &&
        t.prefixMode == .plain) = true := by decide

/-- V48.6, R463. -/
theorem test_V48_6_inIndC :
    nextHas { withCode 0x0000 [0xED, 0x70] [] with
      pc := 0x0001, bc := 0x00FE, r := 0x01, tacts := 4, prefixMode := .extended, portIn := [0x80] }
      (fun t => t.af == 0x0080 && t.pc == 0x0002 && t.wz == 0x00FF && t.r == 0x02 && t.tacts == 12 && t.prefixMode == .plain) = true := by decide

/-- V48.7, R464. -/
theorem test_V48_7_outIndCR :
    nextHas { withCode 0x0000 [0xED, 0x79] [] with
      pc := 0x0001, af := 0x0700, bc := 0x12FE, r := 0x01, tacts := 4, prefixMode := .extended }
      (fun t => t.pc == 0x0002 && t.wz == 0x12FF && t.r == 0x02 && t.tacts == 12 && t.prefixMode == .plain &&
        t.portOut == [(0x12FE, 0x07)]) = true := by decide

/-- V48.8, R465. -/
theorem test_V48_8_outIndC0 :
    nextHas { withCode 0x0000 [0xED, 0x71] [] with pc := 0x0001, bc := 0x00FE, r := 0x01, tacts := 4, prefixMode := .extended }
      (fun t => t.pc == 0x0002 && t.wz == 0x00FF && t.r == 0x02 && t.tacts == 12 && t.prefixMode == .plain &&
        t.portOut == [(0x00FE, 0x00)]) = true := by decide

/-- V48.9, R467. -/
theorem test_V48_9_ini :
    nextHas { withCode 0x0000 [0xED, 0xA2] [] with
      pc := 0x0001, bc := 0x0210, hl := 0x8000, r := 0x01, tacts := 4, prefixMode := .extended, portIn := [0x7F] }
      (fun t => t.bc == 0x0110 && t.hl == 0x8001 && t.pc == 0x0002 && t.wz == 0x0211 && t.r == 0x02 && t.tacts == 16 &&
        t.prefixMode == .plain && t.read8 0x8000 == 0x7F) = true := by decide

/-- V48.10, R468. -/
theorem test_V48_10_ind :
    nextHas { withCode 0x0000 [0xED, 0xAA] [] with
      pc := 0x0001, bc := 0x0100, hl := 0x8000, r := 0x01, tacts := 4, prefixMode := .extended, portIn := [0x80] }
      (fun t => t.af == 0x0053 && t.bc == 0x0000 && t.hl == 0x7FFF && t.pc == 0x0002 && t.wz == 0x00FF && t.r == 0x02 &&
        t.tacts == 16 && t.prefixMode == .plain && t.read8 0x8000 == 0x80) = true := by decide

/-- V48.12, R471. -/
theorem test_V48_12_outi :
    nextHas { withCode 0x0000 [0xED, 0xA3] [(0x8000, 0x55)] with
      pc := 0x0001, bc := 0x0210, hl := 0x8000, r := 0x01, tacts := 4, prefixMode := .extended }
      (fun t => t.bc == 0x0110 && t.hl == 0x8001 && t.pc == 0x0002 && t.wz == 0x0111 && t.r == 0x02 && t.tacts == 16 &&
        t.prefixMode == .plain && t.portOut == [(0x0110, 0x55)]) = true := by decide

/-- V48.13, R472. -/
theorem test_V48_13_outd :
    nextHas { withCode 0x0000 [0xED, 0xAB] [(0x8000, 0xFF)] with
      pc := 0x0001, bc := 0x0110, hl := 0x8000, r := 0x01, tacts := 4, prefixMode := .extended }
      (fun t => t.af == 0x0057 && t.bc == 0x0010 && t.hl == 0x7FFF && t.pc == 0x0002 && t.wz == 0x000F && t.r == 0x02 &&
        t.tacts == 16 && t.prefixMode == .plain && t.portOut == [(0x0010, 0xFF)]) = true := by decide

/-- V49.1, R490. -/
theorem test_V49_1_nop :
    nextHas (withCode 0x0000 [0x00] [])
      (fun t => t.pc == 0x0001 && t.r == 0x01 && t.tacts == 4) = true := by decide

/-- V49.2, R491. -/
theorem test_V49_2_halt :
    nextHas (withCode 0x0007 [0x76] [])
      (fun t => t.pc == 0x0008 && t.r == 0x01 && t.halted == true && t.tacts == 4) = true := by decide

/-- V49.4, R492. -/
theorem test_V49_4_di :
    nextHas { withCode 0x0000 [0xF3] [] with iff1 := true, iff2 := true }
      (fun t => t.pc == 0x0001 && t.r == 0x01 && t.iff1 == false && t.iff2 == false && t.tacts == 4) = true := by decide

/-- V49.5, R493. -/
theorem test_V49_5_ei :
    nextHas (withCode 0x0000 [0xFB] [])
      (fun t => t.pc == 0x0001 && t.r == 0x01 && t.iff1 == true && t.iff2 == true && t.blocked == true && t.tacts == 4) = true := by decide

/-- V49.6, R494. -/
theorem test_V49_6_im0 :
    nextHas { withCode 0x0000 [0xED, 0x6E] [] with pc := 0x0001, r := 0x01, im := .im2, tacts := 4, prefixMode := .extended }
      (fun t => t.pc == 0x0002 && t.r == 0x02 && t.im == .im0 && t.tacts == 8 && t.prefixMode == .plain) = true := by decide

/-- V49.7, R495. -/
theorem test_V49_7_im1 :
    nextHas { withCode 0x0000 [0xED, 0x76] [] with pc := 0x0001, r := 0x01, tacts := 4, prefixMode := .extended }
      (fun t => t.pc == 0x0002 && t.r == 0x02 && t.im == .im1 && t.tacts == 8 && t.prefixMode == .plain) = true := by decide

/-- V49.8, R496. -/
theorem test_V49_8_im2 :
    nextHas { withCode 0x0000 [0xED, 0x7E] [] with pc := 0x0001, r := 0x01, tacts := 4, prefixMode := .extended }
      (fun t => t.pc == 0x0002 && t.r == 0x02 && t.im == .im2 && t.tacts == 8 && t.prefixMode == .plain) = true := by decide

/-- V49.9, R497. -/
theorem test_V49_9_nopEd :
    nextHas { withCode 0x0000 [0xED, 0x00] [] with pc := 0x0001, r := 0x01, tacts := 4, prefixMode := .extended }
      (fun t => t.pc == 0x0002 && t.r == 0x02 && t.tacts == 8 && t.prefixMode == .plain) = true := by decide

/-- V49.10, R497. -/
theorem test_V49_10_nopEd :
    nextHas { withCode 0x0000 [0xED, 0xED] [] with pc := 0x0001, r := 0x01, tacts := 4, prefixMode := .extended }
      (fun t => t.pc == 0x0002 && t.r == 0x02 && t.tacts == 8 && t.prefixMode == .plain) = true := by decide

/-- V49.11, R498. -/
theorem test_V49_11_ldXNn :
    nextHas { withCode 0x0000 [0xDD, 0xDD, 0x21, 0x34, 0x12] [] with pc := 0x0002, r := 0x02, tacts := 8, indexMode := some .ix }
      (fun t => t.ix == 0x1234 && t.pc == 0x0005 && t.r == 0x03 && t.tacts == 18 && t.indexMode == none) = true := by decide

/-- V49.13, R501. -/
theorem test_V49_13_ldRpIndNn :
    nextHas { withCode 0x0000 [0xDD, 0xED, 0x6B, 0x00, 0x80] [(0x8000, 0xCD), (0x8001, 0xAB)] with
      pc := 0x0002, r := 0x02, tacts := 8, prefixMode := .extended }
      (fun t => t.hl == 0xABCD && t.pc == 0x0005 && t.wz == 0x8001 && t.r == 0x03 && t.tacts == 24 && t.prefixMode == .plain) = true := by decide

/-- V49.14, R498. -/
theorem test_V49_14_ddPrefix :
    nextHas { withCode 0x0000 [0xDD] [] with ix := 0x8000 }
      (fun t => t.pc == 0x0001 && t.r == 0x01 && t.tacts == 4 && t.indexMode == some .ix) = true := by decide

/-- V60.1, R621. -/
theorem test_V60_1 :
    nextHas { withCode 0x0100 [0x00] [] with sp := 0x8000, iff1 := true, iff2 := true, nmiPending := true }
      (fun t => t.sp == 0x7FFE && t.pc == 0x0066 && t.wz == 0x0066 && t.r == 0x01 && t.iff1 == false && t.nmiPending == false &&
        t.tacts == 11 && t.read8 0x7FFF == 0x01) = true := by decide

/-- V60.2, R621. -/
theorem test_V60_2 :
    nextHas { withCode 0x0107 [0x76] [] with pc := 0x0108, sp := 0x8000, halted := true, nmiPending := true }
      (fun t => t.sp == 0x7FFE && t.pc == 0x0066 && t.wz == 0x0066 && t.r == 0x01 && t.halted == false &&
        t.nmiPending == false && t.tacts == 11 && t.read8 0x7FFE == 0x08 && t.read8 0x7FFF == 0x01) = true := by decide

/-- V60.3, R621. -/
theorem test_V60_3 :
    nextHas { withCode 0x0000 [0x00] [] with sp := 0x8000, blocked := true, nmiPending := true }
      (fun t => t.sp == 0x7FFE && t.pc == 0x0066 && t.wz == 0x0066 && t.r == 0x01 && t.nmiPending == false && t.tacts == 11) = true := by decide

/-- V60.4, R625. -/
theorem test_V60_4 :
    nextHas { withCode 0x0100 [0x00] [] with sp := 0x8000, iff1 := true, iff2 := true, im := .im1, intLine := true }
      (fun t => t.sp == 0x7FFE && t.pc == 0x0038 && t.wz == 0x0038 && t.r == 0x01 && t.iff1 == false && t.iff2 == false &&
        t.tacts == 13 && t.read8 0x7FFF == 0x01) = true := by decide

/-- V60.5, R624. -/
theorem test_V60_5 :
    nextHas { withCode 0x0100 [0x00] [] with sp := 0x8000, iff1 := true, iff2 := true, intLine := true, busVector := [0xC7] }
      (fun t => t.sp == 0x7FFE && t.pc == 0x0038 && t.wz == 0x0038 && t.r == 0x01 && t.iff1 == false && t.iff2 == false &&
        t.tacts == 13 && t.read8 0x7FFF == 0x01) = true := by decide

/-- V60.6, R626. -/
theorem test_V60_6 :
    nextHas { withCode 0x0100 [0x00] [(0x90FF, 0x34), (0x9100, 0x12)] with
      sp := 0x8000, i := 0x90, iff1 := true, iff2 := true, im := .im2, intLine := true, busVector := [0xFF] }
      (fun t => t.sp == 0x7FFE && t.pc == 0x1234 && t.wz == 0x1234 && t.r == 0x01 && t.iff1 == false && t.iff2 == false &&
        t.tacts == 19 && t.read8 0x7FFF == 0x01) = true := by decide

/-- V60.7, R622. -/
theorem test_V60_7_nop :
    nextHas { withCode 0x0000 [0x00] [] with im := .im1, intLine := true }
      (fun t => t.pc == 0x0001 && t.r == 0x01 && t.tacts == 4) = true := by decide

/-- V60.11, R613. -/
theorem test_V60_11_ddPrefix :
    nextHas { withCode 0x0000 [0xDD] [] with ix := 0x1111, sp := 0x8000, iff1 := true, im := .im2 }
      (fun t => t.pc == 0x0001 && t.r == 0x01 && t.tacts == 4 && t.indexMode == some .ix) = true := by decide

/-- By R306. -/
theorem test_addIndHl :
    nextHas { withCode 0x0000 [0x86] [(0x8000, 0x01)] with af := 0x7F00, hl := 0x8000 }
      (fun t => t.af == 0x8094 && t.tacts == 7) = true := by decide

/-- By R306. -/
theorem test_addIdx :
    nextHas { withCode 0x0000 [0xFD, 0x86, 0xFF] [(0x8000, 0x01)] with
      pc := 0x0001, r := 0x01, tacts := 4, indexMode := some .iy, af := 0x7F00, iy := 0x8001 }
      (fun t => t.af == 0x8094 && t.wz == 0x8000 && t.pc == 0x0003 && t.tacts == 19) = true := by decide

/-- By R307. -/
theorem test_adcR :
    nextHas { withCode 0x0000 [0x88] [] with af := 0x0F01, bc := 0x0000 }
      (fun t => t.af == 0x1010 && t.tacts == 4) = true := by decide

/-- By R307. -/
theorem test_adcIndHl :
    nextHas { withCode 0x0000 [0x8E] [(0x8000, 0x00)] with af := 0x0F01, hl := 0x8000 }
      (fun t => t.af == 0x1010 && t.tacts == 7) = true := by decide

/-- By R307. -/
theorem test_adcXHalf :
    nextHas { withCode 0x0000 [0xDD, 0x8D] [] with
      pc := 0x0001, r := 0x01, tacts := 4, indexMode := some .ix, af := 0x0F01, ix := 0x8000, hl := 0x4444 }
      (fun t => t.af == 0x1010 && t.tacts == 8) = true := by decide

/-- By R307. -/
theorem test_adcIdx :
    nextHas { withCode 0x0000 [0xFD, 0x8E, 0xFF] [(0x8000, 0x00)] with
      pc := 0x0001, r := 0x01, tacts := 4, indexMode := some .iy, af := 0x0F01, iy := 0x8001 }
      (fun t => t.af == 0x1010 && t.wz == 0x8000 && t.pc == 0x0003 && t.tacts == 19) = true := by decide

/-- By R308. -/
theorem test_subR :
    nextHas { withCode 0x0000 [0x90] [] with af := 0x8000, bc := 0x0100 }
      (fun t => t.af == 0x7F3E && t.tacts == 4) = true := by decide

/-- By R308. -/
theorem test_subIndHl :
    nextHas { withCode 0x0000 [0x96] [(0x8000, 0x01)] with af := 0x8000, hl := 0x8000 }
      (fun t => t.af == 0x7F3E && t.tacts == 7) = true := by decide

/-- By R308. -/
theorem test_subXHalf :
    nextHas { withCode 0x0000 [0xDD, 0x95] [] with
      pc := 0x0001, r := 0x01, tacts := 4, indexMode := some .ix, af := 0x8000, ix := 0x8001, hl := 0x4444 }
      (fun t => t.af == 0x7F3E && t.tacts == 8) = true := by decide

/-- By R308. -/
theorem test_subIdx :
    nextHas { withCode 0x0000 [0xFD, 0x96, 0xFF] [(0x8000, 0x01)] with
      pc := 0x0001, r := 0x01, tacts := 4, indexMode := some .iy, af := 0x8000, iy := 0x8001 }
      (fun t => t.af == 0x7F3E && t.wz == 0x8000 && t.pc == 0x0003 && t.tacts == 19) = true := by decide

/-- By R309. -/
theorem test_sbcR :
    nextHas { withCode 0x0000 [0x98] [] with af := 0x1001, bc := 0x1000 }
      (fun t => t.af == 0xFFBB && t.tacts == 4) = true := by decide

/-- By R309. -/
theorem test_sbcIndHl :
    nextHas { withCode 0x0000 [0x9E] [(0x8000, 0x10)] with af := 0x1001, hl := 0x8000 }
      (fun t => t.af == 0xFFBB && t.tacts == 7) = true := by decide

/-- By R309. -/
theorem test_sbcXHalf :
    nextHas { withCode 0x0000 [0xDD, 0x9D] [] with
      pc := 0x0001, r := 0x01, tacts := 4, indexMode := some .ix, af := 0x1001, ix := 0x8010, hl := 0x4444 }
      (fun t => t.af == 0xFFBB && t.tacts == 8) = true := by decide

/-- By R309. -/
theorem test_sbcIdx :
    nextHas { withCode 0x0000 [0xFD, 0x9E, 0xFF] [(0x8000, 0x10)] with
      pc := 0x0001, r := 0x01, tacts := 4, indexMode := some .iy, af := 0x1001, iy := 0x8001 }
      (fun t => t.af == 0xFFBB && t.wz == 0x8000 && t.pc == 0x0003 && t.tacts == 19) = true := by decide

/-- By R310. -/
theorem test_andR :
    nextHas { withCode 0x0000 [0xA0] [] with af := 0xF000, bc := 0x3C00 }
      (fun t => t.af == 0x3034 && t.tacts == 4) = true := by decide

/-- By R310. -/
theorem test_andIndHl :
    nextHas { withCode 0x0000 [0xA6] [(0x8000, 0x3C)] with af := 0xF000, hl := 0x8000 }
      (fun t => t.af == 0x3034 && t.tacts == 7) = true := by decide

/-- By R310. -/
theorem test_andXHalf :
    nextHas { withCode 0x0000 [0xDD, 0xA5] [] with
      pc := 0x0001, r := 0x01, tacts := 4, indexMode := some .ix, af := 0xF000, ix := 0x803C, hl := 0x4444 }
      (fun t => t.af == 0x3034 && t.tacts == 8) = true := by decide

/-- By R310. -/
theorem test_andIdx :
    nextHas { withCode 0x0000 [0xFD, 0xA6, 0xFF] [(0x8000, 0x3C)] with
      pc := 0x0001, r := 0x01, tacts := 4, indexMode := some .iy, af := 0xF000, iy := 0x8001 }
      (fun t => t.af == 0x3034 && t.wz == 0x8000 && t.pc == 0x0003 && t.tacts == 19) = true := by decide

/-- By R311. -/
theorem test_xorIndHl :
    nextHas { withCode 0x0000 [0xAE] [(0x8000, 0x5A)] with af := 0x5AFF, hl := 0x8000 }
      (fun t => t.af == 0x0044 && t.tacts == 7) = true := by decide

/-- By R311. -/
theorem test_xorN :
    nextHas { withCode 0x0000 [0xEE, 0x5A] [] with af := 0x5AFF }
      (fun t => t.af == 0x0044 && t.pc == 0x0002 && t.tacts == 7) = true := by decide

/-- By R311. -/
theorem test_xorXHalf :
    nextHas { withCode 0x0000 [0xDD, 0xAD] [] with
      pc := 0x0001, r := 0x01, tacts := 4, indexMode := some .ix, af := 0x5AFF, ix := 0x805A, hl := 0x4444 }
      (fun t => t.af == 0x0044 && t.tacts == 8) = true := by decide

/-- By R311. -/
theorem test_xorIdx :
    nextHas { withCode 0x0000 [0xFD, 0xAE, 0xFF] [(0x8000, 0x5A)] with
      pc := 0x0001, r := 0x01, tacts := 4, indexMode := some .iy, af := 0x5AFF, iy := 0x8001 }
      (fun t => t.af == 0x0044 && t.wz == 0x8000 && t.pc == 0x0003 && t.tacts == 19) = true := by decide

/-- By R312. -/
theorem test_orR :
    nextHas { withCode 0x0000 [0xB0] [] with af := 0x8000, bc := 0x0100 }
      (fun t => t.af == 0x8184 && t.tacts == 4) = true := by decide

/-- By R312. -/
theorem test_orIndHl :
    nextHas { withCode 0x0000 [0xB6] [(0x8000, 0x01)] with af := 0x8000, hl := 0x8000 }
      (fun t => t.af == 0x8184 && t.tacts == 7) = true := by decide

/-- By R312. -/
theorem test_orXHalf :
    nextHas { withCode 0x0000 [0xDD, 0xB5] [] with
      pc := 0x0001, r := 0x01, tacts := 4, indexMode := some .ix, af := 0x8000, ix := 0x8001, hl := 0x4444 }
      (fun t => t.af == 0x8184 && t.tacts == 8) = true := by decide

/-- By R312. -/
theorem test_orIdx :
    nextHas { withCode 0x0000 [0xFD, 0xB6, 0xFF] [(0x8000, 0x01)] with
      pc := 0x0001, r := 0x01, tacts := 4, indexMode := some .iy, af := 0x8000, iy := 0x8001 }
      (fun t => t.af == 0x8184 && t.wz == 0x8000 && t.pc == 0x0003 && t.tacts == 19) = true := by decide

/-- By R313. -/
theorem test_cpR :
    nextHas { withCode 0x0000 [0xB8] [] with af := 0x0000, bc := 0x2800 }
      (fun t => t.af == 0x00BB && t.tacts == 4) = true := by decide

/-- By R313. -/
theorem test_cpIndHl :
    nextHas { withCode 0x0000 [0xBE] [(0x8000, 0x28)] with af := 0x0000, hl := 0x8000 }
      (fun t => t.af == 0x00BB && t.tacts == 7) = true := by decide

/-- By R313. -/
theorem test_cpXHalf :
    nextHas { withCode 0x0000 [0xDD, 0xBD] [] with
      pc := 0x0001, r := 0x01, tacts := 4, indexMode := some .ix, af := 0x0000, ix := 0x8028, hl := 0x4444 }
      (fun t => t.af == 0x00BB && t.tacts == 8) = true := by decide

/-- By R313. -/
theorem test_cpIdx :
    nextHas { withCode 0x0000 [0xFD, 0xBE, 0xFF] [(0x8000, 0x28)] with
      pc := 0x0001, r := 0x01, tacts := 4, indexMode := some .iy, af := 0x0000, iy := 0x8001 }
      (fun t => t.af == 0x00BB && t.wz == 0x8000 && t.pc == 0x0003 && t.tacts == 19) = true := by decide

/-- By R375. -/
theorem test_rlcIndHl :
    nextHas { withCode 0x0000 [0xCB, 0x06] [(0x8000, 0x80)] with
      pc := 0x0001, r := 0x01, tacts := 4, prefixMode := .bit, af := 0x0000, hl := 0x8000 }
      (fun t => t.read8 0x8000 == 0x01 && t.af == 0x0001 && t.tacts == 15) = true := by decide

/-- By R375. -/
theorem test_rlcIdx :
    nextHas { withCode 0x0000 [0xDD, 0xCB, 0xFF, 0x06] [(0x8000, 0x80)] with
      pc := 0x0002, r := 0x02, tacts := 8, prefixMode := .bit, indexMode := some .ix, af := 0x0000, ix := 0x8001 }
      (fun t => t.read8 0x8000 == 0x01 && t.af == 0x0001 && t.r == 0x02 && t.pc == 0x0004 && t.tacts == 23) = true := by decide

/-- By R376. -/
theorem test_rrcR :
    nextHas { withCode 0x0000 [0xCB, 0x08] [] with
      pc := 0x0001, r := 0x01, tacts := 4, prefixMode := .bit, af := 0x0000, bc := 0x0100 }
      (fun t => t.bc == 0x8000 && t.af == 0x0081 && t.tacts == 8) = true := by decide

/-- By R376. -/
theorem test_rrcIdx :
    nextHas { withCode 0x0000 [0xDD, 0xCB, 0xFF, 0x0E] [(0x8000, 0x01)] with
      pc := 0x0002, r := 0x02, tacts := 8, prefixMode := .bit, indexMode := some .ix, af := 0x0000, ix := 0x8001 }
      (fun t => t.read8 0x8000 == 0x80 && t.af == 0x0081 && t.r == 0x02 && t.pc == 0x0004 && t.tacts == 23) = true := by decide

/-- By R376. -/
theorem test_rrcIdxR :
    nextHas { withCode 0x0000 [0xFD, 0xCB, 0x01, 0x0B] [(0x8000, 0x01)] with
      pc := 0x0002, r := 0x02, tacts := 8, prefixMode := .bit, indexMode := some .iy, af := 0x0000, iy := 0x7FFF }
      (fun t => t.read8 0x8000 == 0x80 && t.de == 0x0080 && t.af == 0x0081 && t.wz == 0x8000 && t.tacts == 23) = true := by decide

/-- By R377. -/
theorem test_rlIndHl :
    nextHas { withCode 0x0000 [0xCB, 0x16] [(0x8000, 0x80)] with
      pc := 0x0001, r := 0x01, tacts := 4, prefixMode := .bit, af := 0x0000, hl := 0x8000 }
      (fun t => t.read8 0x8000 == 0x00 && t.af == 0x0045 && t.tacts == 15) = true := by decide

/-- By R377. -/
theorem test_rlIdx :
    nextHas { withCode 0x0000 [0xDD, 0xCB, 0xFF, 0x16] [(0x8000, 0x80)] with
      pc := 0x0002, r := 0x02, tacts := 8, prefixMode := .bit, indexMode := some .ix, af := 0x0000, ix := 0x8001 }
      (fun t => t.read8 0x8000 == 0x00 && t.af == 0x0045 && t.r == 0x02 && t.pc == 0x0004 && t.tacts == 23) = true := by decide

/-- By R377. -/
theorem test_rlIdxR :
    nextHas { withCode 0x0000 [0xFD, 0xCB, 0x01, 0x13] [(0x8000, 0x80)] with
      pc := 0x0002, r := 0x02, tacts := 8, prefixMode := .bit, indexMode := some .iy, af := 0x0000, iy := 0x7FFF }
      (fun t => t.read8 0x8000 == 0x00 && t.de == 0x0000 && t.af == 0x0045 && t.wz == 0x8000 && t.tacts == 23) = true := by decide

/-- By R378. -/
theorem test_rrIndHl :
    nextHas { withCode 0x0000 [0xCB, 0x1E] [(0x8000, 0x01)] with
      pc := 0x0001, r := 0x01, tacts := 4, prefixMode := .bit, af := 0x0001, hl := 0x8000 }
      (fun t => t.read8 0x8000 == 0x80 && t.af == 0x0081 && t.tacts == 15) = true := by decide

/-- By R378. -/
theorem test_rrIdx :
    nextHas { withCode 0x0000 [0xDD, 0xCB, 0xFF, 0x1E] [(0x8000, 0x01)] with
      pc := 0x0002, r := 0x02, tacts := 8, prefixMode := .bit, indexMode := some .ix, af := 0x0001, ix := 0x8001 }
      (fun t => t.read8 0x8000 == 0x80 && t.af == 0x0081 && t.r == 0x02 && t.pc == 0x0004 && t.tacts == 23) = true := by decide

/-- By R378. -/
theorem test_rrIdxR :
    nextHas { withCode 0x0000 [0xFD, 0xCB, 0x01, 0x1B] [(0x8000, 0x01)] with
      pc := 0x0002, r := 0x02, tacts := 8, prefixMode := .bit, indexMode := some .iy, af := 0x0001, iy := 0x7FFF }
      (fun t => t.read8 0x8000 == 0x80 && t.de == 0x0080 && t.af == 0x0081 && t.wz == 0x8000 && t.tacts == 23) = true := by decide

/-- By R379. -/
theorem test_slaIndHl :
    nextHas { withCode 0x0000 [0xCB, 0x26] [(0x8000, 0x80)] with
      pc := 0x0001, r := 0x01, tacts := 4, prefixMode := .bit, af := 0x0000, hl := 0x8000 }
      (fun t => t.read8 0x8000 == 0x00 && t.af == 0x0045 && t.tacts == 15) = true := by decide

/-- By R379. -/
theorem test_slaIdx :
    nextHas { withCode 0x0000 [0xDD, 0xCB, 0xFF, 0x26] [(0x8000, 0x80)] with
      pc := 0x0002, r := 0x02, tacts := 8, prefixMode := .bit, indexMode := some .ix, af := 0x0000, ix := 0x8001 }
      (fun t => t.read8 0x8000 == 0x00 && t.af == 0x0045 && t.r == 0x02 && t.pc == 0x0004 && t.tacts == 23) = true := by decide

/-- By R379. -/
theorem test_slaIdxR :
    nextHas { withCode 0x0000 [0xFD, 0xCB, 0x01, 0x23] [(0x8000, 0x80)] with
      pc := 0x0002, r := 0x02, tacts := 8, prefixMode := .bit, indexMode := some .iy, af := 0x0000, iy := 0x7FFF }
      (fun t => t.read8 0x8000 == 0x00 && t.de == 0x0000 && t.af == 0x0045 && t.wz == 0x8000 && t.tacts == 23) = true := by decide

/-- By R380. -/
theorem test_sraIndHl :
    nextHas { withCode 0x0000 [0xCB, 0x2E] [(0x8000, 0x81)] with
      pc := 0x0001, r := 0x01, tacts := 4, prefixMode := .bit, af := 0x0000, hl := 0x8000 }
      (fun t => t.read8 0x8000 == 0xC0 && t.af == 0x0085 && t.tacts == 15) = true := by decide

/-- By R380. -/
theorem test_sraIdx :
    nextHas { withCode 0x0000 [0xDD, 0xCB, 0xFF, 0x2E] [(0x8000, 0x81)] with
      pc := 0x0002, r := 0x02, tacts := 8, prefixMode := .bit, indexMode := some .ix, af := 0x0000, ix := 0x8001 }
      (fun t => t.read8 0x8000 == 0xC0 && t.af == 0x0085 && t.r == 0x02 && t.pc == 0x0004 && t.tacts == 23) = true := by decide

/-- By R380. -/
theorem test_sraIdxR :
    nextHas { withCode 0x0000 [0xFD, 0xCB, 0x01, 0x2B] [(0x8000, 0x81)] with
      pc := 0x0002, r := 0x02, tacts := 8, prefixMode := .bit, indexMode := some .iy, af := 0x0000, iy := 0x7FFF }
      (fun t => t.read8 0x8000 == 0xC0 && t.de == 0x00C0 && t.af == 0x0085 && t.wz == 0x8000 && t.tacts == 23) = true := by decide

/-- By R381. -/
theorem test_sllIndHl :
    nextHas { withCode 0x0000 [0xCB, 0x36] [(0x8000, 0x01)] with
      pc := 0x0001, r := 0x01, tacts := 4, prefixMode := .bit, af := 0x0000, hl := 0x8000 }
      (fun t => t.read8 0x8000 == 0x03 && t.af == 0x0004 && t.tacts == 15) = true := by decide

/-- By R381. -/
theorem test_sllIdxR :
    nextHas { withCode 0x0000 [0xFD, 0xCB, 0x01, 0x33] [(0x8000, 0x01)] with
      pc := 0x0002, r := 0x02, tacts := 8, prefixMode := .bit, indexMode := some .iy, af := 0x0000, iy := 0x7FFF }
      (fun t => t.read8 0x8000 == 0x03 && t.de == 0x0003 && t.af == 0x0004 && t.wz == 0x8000 && t.tacts == 23) = true := by decide

/-- By R382. -/
theorem test_srlIndHl :
    nextHas { withCode 0x0000 [0xCB, 0x3E] [(0x8000, 0x01)] with
      pc := 0x0001, r := 0x01, tacts := 4, prefixMode := .bit, af := 0x0000, hl := 0x8000 }
      (fun t => t.read8 0x8000 == 0x00 && t.af == 0x0045 && t.tacts == 15) = true := by decide

/-- By R382. -/
theorem test_srlIdx :
    nextHas { withCode 0x0000 [0xDD, 0xCB, 0xFF, 0x3E] [(0x8000, 0x01)] with
      pc := 0x0002, r := 0x02, tacts := 8, prefixMode := .bit, indexMode := some .ix, af := 0x0000, ix := 0x8001 }
      (fun t => t.read8 0x8000 == 0x00 && t.af == 0x0045 && t.r == 0x02 && t.pc == 0x0004 && t.tacts == 23) = true := by decide

/-- By R382. -/
theorem test_srlIdxR :
    nextHas { withCode 0x0000 [0xFD, 0xCB, 0x01, 0x3B] [(0x8000, 0x01)] with
      pc := 0x0002, r := 0x02, tacts := 8, prefixMode := .bit, indexMode := some .iy, af := 0x0000, iy := 0x7FFF }
      (fun t => t.read8 0x8000 == 0x00 && t.de == 0x0000 && t.af == 0x0045 && t.wz == 0x8000 && t.tacts == 23) = true := by decide

/-- By R404. -/
theorem test_resIndHl :
    nextHas { withCode 0x0000 [0xCB, 0x86] [(0x8000, 0xFF)] with
      pc := 0x0001, r := 0x01, tacts := 4, prefixMode := .bit, hl := 0x8000 }
      (fun t => t.read8 0x8000 == 0xFE && t.af == 0x0000 && t.tacts == 15) = true := by decide

/-- By R405. -/
theorem test_resIdx :
    nextHas { withCode 0x0000 [0xDD, 0xCB, 0x01, 0x86] [(0x8001, 0xFF)] with
      pc := 0x0002, r := 0x02, tacts := 8, prefixMode := .bit, indexMode := some .ix, ix := 0x8000 }
      (fun t => t.read8 0x8001 == 0xFE && t.bc == 0x0000 && t.tacts == 23) = true := by decide

/-- By R408. -/
theorem test_setIdxR :
    nextHas { withCode 0x0000 [0xFD, 0xCB, 0xFF, 0xC1] [] with
      pc := 0x0002, r := 0x02, tacts := 8, prefixMode := .bit, indexMode := some .iy, iy := 0x8000 }
      (fun t => t.read8 0x7FFF == 0x01 && t.bc == 0x0001 && t.wz == 0x7FFF && t.tacts == 23) = true := by decide

/-- By R500. -/
theorem test_cbPrefix :
    nextHas { withCode 0x0000 [0xCB] [] with blocked := true }
      (fun t => t.prefixMode == .bit && t.blocked == true && t.r == 0x01 && t.pc == 0x0001 && t.tacts == 4) = true := by decide

/-- By R501. -/
theorem test_edPrefix :
    nextHas { withCode 0x0000 [0xED] [] with blocked := true }
      (fun t => t.prefixMode == .extended && t.blocked == true && t.r == 0x01 && t.pc == 0x0001 && t.tacts == 4) = true := by decide

/-- By R499. -/
theorem test_fdPrefix :
    nextHas (withCode 0x0000 [0xFD] [])
      (fun t => t.indexMode == some .iy && t.prefixMode == .plain && t.tacts == 4) = true := by decide

/-- By R500. -/
theorem test_cbPrefixX :
    nextHas { withCode 0x0000 [0xFD, 0xCB] [] with pc := 0x0001, r := 0x01, tacts := 4, indexMode := some .iy }
      (fun t => t.prefixMode == .bit && t.indexMode == some .iy && t.r == 0x02 && t.tacts == 8) = true := by decide

/-- By R498. -/
theorem test_ddPrefixX :
    nextHas { withCode 0x0000 [0xFD, 0xDD] [] with pc := 0x0001, r := 0x01, tacts := 4, indexMode := some .iy }
      (fun t => t.prefixMode == .plain && t.indexMode == some .ix && t.tacts == 8) = true := by decide

/-- By R499. -/
theorem test_fdPrefixX :
    nextHas { withCode 0x0000 [0xDD, 0xFD] [] with pc := 0x0001, r := 0x01, tacts := 4, indexMode := some .ix }
      (fun t => t.prefixMode == .plain && t.indexMode == some .iy && t.tacts == 8) = true := by decide

/-- By R501. -/
theorem test_edPrefixX :
    nextHas { withCode 0x0000 [0xDD, 0xED] [] with pc := 0x0001, r := 0x01, tacts := 4, indexMode := some .ix }
      (fun t => t.prefixMode == .extended && t.indexMode == none && t.tacts == 8) = true := by decide

/-- By R245. -/
theorem test_ldIndNnX :
    nextHas { withCode 0x0000 [0xFD, 0x22, 0x00, 0x80] [] with
      pc := 0x0001, r := 0x01, tacts := 4, indexMode := some .iy, iy := 0xBEEF }
      (fun t => t.read8 0x8000 == 0xEF && t.read8 0x8001 == 0xBE && t.wz == 0x8001 && t.pc == 0x0004 && t.tacts == 20) = true := by decide

/-- By R244. -/
theorem test_ldXIndNn :
    nextHas { withCode 0x0000 [0xDD, 0x2A, 0xFF, 0xFF] [(0xFFFF, 0x34)] with
      pc := 0x0001, r := 0x01, tacts := 4, indexMode := some .ix }
      (fun t => t.ix == 0xDD34 && t.wz == 0x0000 && t.tacts == 20) = true := by decide

/-- By R253. -/
theorem test_popX :
    nextHas { withCode 0x0000 [0xDD, 0xE1] [(0xFFFF, 0xC1)] with
      pc := 0x0001, r := 0x01, tacts := 4, indexMode := some .ix, sp := 0xFFFF }
      (fun t => t.ix == 0xDDC1 && t.sp == 0x0001 && t.tacts == 14) = true := by decide

/-- By R249. -/
theorem test_ldSpX :
    nextHas { withCode 0x0000 [0xFD, 0xF9] [] with pc := 0x0001, r := 0x01, tacts := 4, indexMode := some .iy, iy := 0x4000 }
      (fun t => t.sp == 0x4000 && t.tacts == 10) = true := by decide

/-- By R356. -/
theorem test_decX :
    nextHas { withCode 0x0000 [0xFD, 0x2B] [] with pc := 0x0001, r := 0x01, tacts := 4, indexMode := some .iy, iy := 0x0000 }
      (fun t => t.iy == 0xFFFF && t.af == 0x0000 && t.tacts == 10) = true := by decide

/-- By R316. -/
theorem test_incIdx :
    nextHas { withCode 0x0000 [0xDD, 0x34, 0x01] [(0x8001, 0x0F)] with
      pc := 0x0001, r := 0x01, tacts := 4, indexMode := some .ix, ix := 0x8000 }
      (fun t => t.read8 0x8001 == 0x10 && t.af == 0x0010 && t.wz == 0x8001 && t.tacts == 23) = true := by decide

/-- By R314. -/
theorem test_incXHalf :
    nextHas { withCode 0x0000 [0xDD, 0x24] [] with pc := 0x0001, r := 0x01, tacts := 4, indexMode := some .ix, ix := 0x7F11 }
      (fun t => t.ix == 0x8011 && t.af == 0x0094 && t.tacts == 8) = true := by decide

/-- By R317. -/
theorem test_decXHalf :
    nextHas { withCode 0x0000 [0xFD, 0x2D] [] with pc := 0x0001, r := 0x01, tacts := 4, indexMode := some .iy, iy := 0x1100 }
      (fun t => t.iy == 0x11FF && t.af == 0x00BA && t.tacts == 8) = true := by decide

/-- By R318. -/
theorem test_decIndHl :
    nextHas { withCode 0x0000 [0x35] [(0x8000, 0x80)] with hl := 0x8000 }
      (fun t => t.read8 0x8000 == 0x7F && t.af == 0x003E && t.tacts == 11) = true := by decide

/-- By R205. -/
theorem test_ldAIndDe :
    nextHas { withCode 0x0000 [0x1A] [(0xFFFF, 0x42)] with de := 0xFFFF }
      (fun t => t.af == 0x4200 && t.wz == 0x0000 && t.tacts == 7) = true := by decide

/-- By R206. -/
theorem test_ldIndBcA :
    nextHas { withCode 0x0000 [0x02] [] with bc := 0x80FF, af := 0x1200 }
      (fun t => t.read8 0x80FF == 0x12 && t.wz == 0x1200 && t.tacts == 7) = true := by decide

/-- By R281. -/
theorem test_ldd :
    nextHas { withCode 0x0000 [0xED, 0xA8] [(0x8000, 0x08)] with
      pc := 0x0001, r := 0x01, tacts := 4, prefixMode := .extended, hl := 0x8000, de := 0x9000, bc := 0x0001 }
      (fun t => t.read8 0x9000 == 0x08 && t.hl == 0x7FFF && t.de == 0x8FFF && t.bc == 0x0000 && t.af == 0x0008 && t.tacts == 16) = true := by decide

/-- By R283. -/
theorem test_lddr :
    nextHas { withCode 0x0000 [0xED, 0xB8] [(0x8001, 0x02)] with
      pc := 0x0001, r := 0x01, tacts := 4, prefixMode := .extended, hl := 0x8001, de := 0x9001, bc := 0x0002 }
      (fun t => t.read8 0x9001 == 0x02 && t.bc == 0x0001 && t.af == 0x0024 && t.pc == 0x0000 && t.wz == 0x0001 && t.tacts == 21) = true := by decide

/-- By R285. -/
theorem test_cpd :
    nextHas { withCode 0x0000 [0xED, 0xA9] [(0x8000, 0x10)] with
      pc := 0x0001, r := 0x01, tacts := 4, prefixMode := .extended, hl := 0x8000, bc := 0x0005, af := 0x1000 }
      (fun t => t.hl == 0x7FFF && t.af == 0x1046 && t.wz == 0xFFFF && t.tacts == 16) = true := by decide

/-- By R286. -/
theorem test_cpir :
    nextHas { withCode 0x0000 [0xED, 0xB1] [(0x8000, 0x11)] with
      pc := 0x0001, r := 0x01, tacts := 4, prefixMode := .extended, hl := 0x8000, bc := 0x0010, af := 0x3300 }
      (fun t => t.hl == 0x8001 && t.bc == 0x000F && t.af == 0x3326 && t.pc == 0x0000 && t.wz == 0x0001 && t.tacts == 21) = true := by decide

/-- By R287. -/
theorem test_cpdr :
    nextHas { withCode 0x0000 [0xED, 0xB9] [(0x8000, 0x33)] with
      pc := 0x0001, r := 0x01, tacts := 4, prefixMode := .extended, hl := 0x8000, bc := 0x0010, af := 0x3300 }
      (fun t => t.hl == 0x7FFF && t.af == 0x3346 && t.pc == 0x0002 && t.wz == 0xFFFF && t.tacts == 16) = true := by decide

/-- By R469. -/
theorem test_inir :
    nextHas { withCode 0x0000 [0xED, 0xB2] [] with
      pc := 0x0001, r := 0x01, tacts := 4, prefixMode := .extended, hl := 0x8000, bc := 0x0210, portIn := [0x01] }
      (fun t => t.read8 0x8000 == 0x01 && t.bc == 0x0110 && t.hl == 0x8001 && t.af == 0x0004 && t.pc == 0x0000 &&
        t.wz == 0x0001 && t.tacts == 21) = true := by decide

/-- By R470. -/
theorem test_indr :
    nextHas { withCode 0x0000 [0xED, 0xBA] [] with
      pc := 0x0001, r := 0x01, tacts := 4, prefixMode := .extended, hl := 0x8000, bc := 0x0110, portIn := [0x01] }
      (fun t => t.read8 0x8000 == 0x01 && t.bc == 0x0010 && t.hl == 0x7FFF && t.af == 0x0044 && t.pc == 0x0002 &&
        t.wz == 0x010F && t.tacts == 16) = true := by decide

/-- By R473. -/
theorem test_otir :
    nextHas { withCode 0x0000 [0xED, 0xB3] [(0x8000, 0x0A)] with
      pc := 0x0001, r := 0x01, tacts := 4, prefixMode := .extended, hl := 0x8000, bc := 0x02FE }
      (fun t => t.portOut == [(0x01FE, 0x0A)] && t.bc == 0x01FE && t.hl == 0x8001 && t.af == 0x0000 && t.pc == 0x0000 &&
        t.wz == 0x0001 && t.tacts == 21) = true := by decide

/-- By R474. -/
theorem test_otdr :
    nextHas { withCode 0x0000 [0xED, 0xBB] [(0x8000, 0xFF)] with
      pc := 0x0001, r := 0x01, tacts := 4, prefixMode := .extended, hl := 0x8000, bc := 0x0110 }
      (fun t => t.portOut == [(0x0010, 0xFF)] && t.hl == 0x7FFF && t.af == 0x0057 && t.pc == 0x0002 && t.wz == 0x000F &&
        t.tacts == 16) = true := by decide

/-! ### What the environment may do, and the failing collaborator -/

/-- R640, decision D25. -/
theorem test_setInterruptMode_refused : State.reset.hostAct (.setInterruptMode 3) = .refused .badInterruptMode := rfl

/-- R601: a write of PUSH that fails leaves the tacts of its M1 fetch (4, R611) and its draws (2 before the fetch, 5 before the
failing write) in place, and 1 more that the environment says. -/
theorem test_deviceFailure :
    step { withCode 0x0000 [0xC5] [] with
      sp := 0x8000, tacts := 100, contention := [(.write 0x7FFF, 5), (.fetch 0x0000, 2)], failure := some ⟨1, 1⟩ } =
    .fault (.deviceFailure 112) := rfl

/-- R601: a step that makes too few calls to reach the failing one goes on; the halted step makes none. -/
theorem test_deviceFailure_not_reached :
    nextHas { withCode 0x0000 [0xC5] [] with sp := 0x8000, failure := some ⟨3, 0⟩ } (fun t => t.sp == 0x7FFE) = true ∧
    nextHas { State.reset with halted := true, failure := some ⟨0, 0⟩ } (fun t => t.tacts == 4) = true := by decide

/-- R89, R730: each access of `LD (HL),B` draws its own contention, by its address and kind; a draw for another address stays. -/
theorem test_contention :
    nextHas { withCode 0x0000 [0x70] [] with
      hl := 0x4000, contention := [(.read 0x4000, 9), (.write 0x4000, 6), (.fetch 0x0000, 1), (.write 0x4000, 3)] }
      (fun t => t.tacts == 7 + 6 + 1 && t.contention == [(.read 0x4000, 9), (.write 0x4000, 3)]) = true := by decide

/-- R98, R84: the accesses of `EX (SP),IY` after its prefix, and of `SET 0,(IX+2)` after both of its. -/
theorem test_access_order :
    ({ withCode 0x0000 [0xE3] [] with sp := 0x8000, indexMode := some .iy }).stepAccesses =
      [.fetch 0x0000, .read 0x8000, .read 0x8001, .write 0x8001, .write 0x8000] ∧
    ({ withCode 0x0000 [0x02, 0xC6] [] with ix := 0x8000, prefixMode := .bit, indexMode := some .ix }).stepAccesses =
      [.operand 0x0000, .operand 0x0001, .read 0x8002, .write 0x8002] := by decide

/-- R626: the push comes before the table read, and the vector byte is no contended access (R82). -/
theorem test_access_order_intAck :
    ({ State.reset with intLine := true, iff1 := true, im := .im2, i := 0x90, busVector := [0xFF] }).stepAccesses =
      [.write 0xFFFF, .write 0xFFFE, .busVector, .read 0x90FF, .read 0x9100] := by decide

/-- R54, R9: a counter of 8 bits wraps. -/
theorem test_tactWidth :
    nextHas { State.reset with tacts := 254, tactWidth := some 8 } (fun t => t.tacts == 2) = true ∧
    nextHas { State.reset with tacts := 254 } (fun t => t.tacts == 258) = true := by decide

/-! ### Memory collaborators other than `FlatRam` (R83, R98) -/

/-- Addresses below 0x4000 in ROM; two banks for 0xC000 to 0xFFFF, the second also at 0x8000; a write at 0x7FFD with bit 0 set installs it. -/
def platform : MemoryCollaborator where
  cells := []
  windows := [⟨0x0000, 0x3FFF, 0x0000, true⟩, ⟨0xC000, 0xFFFF, 0x10000, false⟩, ⟨0x8000, 0xBFFF, 0x14000, false⟩]
  switches := [⟨0x7FFD, 0x7FFD, 0x01, 0x01,
    [⟨0x0000, 0x3FFF, 0x0000, true⟩, ⟨0xC000, 0xFFFF, 0x14000, false⟩, ⟨0x8000, 0xBFFF, 0x14000, false⟩]⟩]

/-- "read-only ROM where writes are ignored" (R83), but a load by the host is not (R642). -/
theorem test_rom :
    (platform.write 0x0100 0x55).read 0x0100 = 0x00 ∧ (platform.load 0x0100 0x55).read 0x0100 = 0x55 ∧
    (platform.write 0x4000 0x55).read 0x4000 = 0x55 := by decide

/-- Paging: the same address names another cell after the write that pages, and the cell keeps its byte. -/
theorem test_paging :
    let m := ((platform.write 0x8001 0x11).write 0xC001 0x22).write 0x7FFD 0x01
    (m.read 0xC001, m.read 0x8001) = (0x11, 0x11) ∧ (m.write 0x7FFD 0x02).windows = m.windows := by decide

/-- R98: the first write of `LD (nn),HL` at 0x7FFC and 0x7FFD does not page, the second does. -/
theorem test_paging_inside_a_step :
    nextHas { withCode 0x4000 [0x22, 0xFC, 0x7F] [] with
      hl := 0x0100, mem := { platform with cells := (withCode 0x4000 [0x22, 0xFC, 0x7F] []).mem.cells } }
      (fun t => t.read8 0x7FFD == 0x01 && t.mem.cell 0xC000 == 0x14000) = true := by decide

/-- Memory keeps its canonical form: writing what an unlisted cell reads as removes the entry. -/
theorem test_memory_canonical :
    Memory.write [(5, 1)] 5 0x00 = [] ∧ Memory.write [(5, 1), (9, 2)] 7 0x44 = [(5, 1), (7, 0x44), (9, 2)] ∧
    Memory.wf [(5, 1), (9, 2)] = true ∧ Memory.wf [(5, 1), (5, 2)] = false ∧ Memory.wf [(5, 0)] = false ∧
    (MemoryCollaborator.flatRam [(65536, 1)]).wf = false := by decide

/-! ### States and operands that meet the hypotheses of the obligations, at the boundaries of their clauses -/

theorem witness_DecodeReadsWhatEncodeWrites :
    (Instr.ldRRHalves .ix .h .a).wf = true ∧ (Instr.anyOther .iy .exDeHl).wf = true ∧ (Instr.retn .o7).wf = true ∧
    (Instr.im0 .o5).wf = true ∧ (Instr.im1 .o6).wf = true ∧ (Instr.im2 .o7).wf = true ∧ (Instr.nopEd 0x3F).wf = true := by decide

/-- A step in context None; a prefix step; a step in IXCB, which counts no fetch. -/
theorem witness_StepExecutesTheDecodedInstruction :
    ((withCode 0 [0x3E, 0xA5] []).fetches = true ∧
      decodeIn (withCode 0 [0x3E, 0xA5] []).context (withCode 0 [0x3E, 0xA5] []).fetchBytes = .ok (.ldRN .a 0xA5, [0])) ∧
    ((withCode 0 [0xDD] []).fetches = true ∧
      decodeIn (withCode 0 [0xDD] []).context (withCode 0 [0xDD] []).fetchBytes = .ok (.ddPrefix, [0, 0])) ∧
    (({ withCode 0 [2, 0xC6] [] with prefixMode := .bit, indexMode := some .ix }).fetches = true ∧
      decodeIn ({ withCode 0 [2, 0xC6] [] with prefixMode := .bit, indexMode := some .ix }).context
        ({ withCode 0 [2, 0xC6] [] with prefixMode := .bit, indexMode := some .ix }).fetchBytes =
          .ok (.setIdx .ix 2 .o0, [0])) := ⟨⟨rfl, rfl⟩, ⟨rfl, rfl⟩, rfl, rfl⟩

theorem witness_ResetStepClearsExactlyItsRegisters : ({ State.reset with resetPending := true }).resetPending = true := rfl

/-- With the interrupt blocked, HALT entered and IFF1 clear. -/
theorem witness_NmiEntrySavesPcAndKeepsIff2 :
    let s := { State.reset with nmiPending := true, halted := true, blocked := true, iff2 := true, failure := some ⟨2, 0⟩ }
    s.resetPending = false ∧ s.boundary = true ∧ s.nmiPending = true ∧ s.answered = true := by decide

theorem witness_InterruptEntryInModesZeroAndOne :
    ∀ m ∈ [IntMode.im0, .im1], let s := { State.reset with intLine := true, iff1 := true, im := m }
    s.resetPending = false ∧ s.boundary = true ∧ s.nmiPending = false ∧ s.intLine = true ∧ s.iff1 = true ∧ s.blocked = false ∧
    s.answered = true ∧ s.im ≠ .im2 := by decide

/-- With the stack on the table entry: the push comes first (R626). -/
theorem witness_InterruptEntryInModeTwo :
    let s := { State.reset with intLine := true, iff1 := true, im := .im2, i := 0x90, sp := 0x9001, busVector := [0xFF] }
    s.resetPending = false ∧ s.boundary = true ∧ s.nmiPending = false ∧ s.intLine = true ∧ s.iff1 = true ∧ s.blocked = false ∧
    s.answered = true ∧ s.im = .im2 := by decide

/-- With the INT line set but IFF1 clear. -/
theorem witness_HaltedStepOnlyCountsRAndTacts :
    let s := { State.reset with halted := true, intLine := true }
    s.resetPending = false ∧ s.boundary = true ∧ s.nmiPending = false ∧ s.acceptsInt = false ∧ s.halted = true := by decide

theorem witness_NoInterruptInsideAnInstruction :
    let s := { withCode 0 [0x21] [] with indexMode := some .ix, nmiPending := true, intLine := true, iff1 := true }
    s.resetPending = false ∧ s.boundary = false ∧ ∃ t : State, step s = .next t := ⟨rfl, rfl, _, rfl⟩

/-- Each clause: a prefix step, EI, EI after DD, and an instruction that clears the flag. -/
theorem witness_OnlyEiLeavesTheBlockedFlagSet :
    (∀ e ∈ [(([0xFD] : List Byte), true, false), ([0xFB], true, true), ([0x00], false, true)],
      ({ withCode 0 e.1 [] with blocked := true }).fetches = true ∧
      nextHas { withCode 0 e.1 [] with blocked := true } (fun t => t.blocked == e.2.1 && t.boundary == e.2.2) = true) ∧
    decodeIn .plain [0xFD, 0, 0] = .ok (.fdPrefix, [0, 0]) ∧ decodeIn .plain [0xFB, 0, 0] = .ok (.ei, [0, 0]) ∧
    decodeIn (.index .ix) [0xFB, 0, 0] = .ok (.anyOther .ix .ei, [0, 0]) ∧ decodeIn .plain [0, 0, 0] = .ok (.nop, [0, 0]) :=
  ⟨by decide, rfl, rfl, rfl, rfl⟩

/-- The failing call is number `k` of an NMI acknowledgment, which makes two. -/
def failingAt (k : Nat) : State := { State.reset with halted := true, nmiPending := true, failure := some ⟨k, 7⟩ }

/-- Each clause, where they meet. -/
theorem witness_DeviceFailureStopsAnAccessingStep :
    (failingAt 0).stepAccesses.length = 2 ∧ step (failingAt 0) = .fault (.deviceFailure 7) ∧
    step (failingAt 1) = .fault (.deviceFailure 7) ∧ nextHas (failingAt 2) (fun t => t.tacts == 11) = true ∧
    ({ State.reset with resetPending := true }).stepAccesses = [] ∧ ({ State.reset with halted := true }).stepAccesses = [] :=
  ⟨rfl, rfl, rfl, by decide, rfl, rfl⟩

/-- The step, and the hypotheses on a draw: another access before it, the same one after it. -/
theorem witness_TactsOnlyIncrease :
    (State.reset.resetPending = false ∧ nextHas State.reset (fun t => t.tacts == 4) = true) ∧
    (let before : List (Access × Nat) := [(.read 0x0000, 9)]
      let s := { State.reset with contention := before ++ (Access.fetch 0x0000, 5) :: [(Access.fetch 0x0000, 7)] }
      (∀ d ∈ before, d.1 ≠ Access.fetch 0x0000) ∧ (s.contended [.fetch 0x0000]).tacts = 5 ∧
      (s.contended [.fetch 0x0000, .fetch 0x0000, .fetch 0x0000]).tacts = 12) := by decide

theorem witness_EveryStepKeepsTheStateLegal : State.reset.legal = true ∧ nextHas State.reset (fun t => t.legal) = true := by decide

/-- The invariant says something: each of its four parts refuses a state. -/
theorem test_illegal_states :
    ({ State.reset with mem := .flatRam [(1, 0)] }).legal = false ∧
    ({ State.reset with tacts := 256, tactWidth := some 8 }).legal = false ∧
    ({ State.reset with prefixMode := .extended, indexMode := some .ix }).legal = false ∧
    ({ State.reset with halted := true, prefixMode := .bit }).legal = false := by decide

theorem witness_EveryInstructionCompletes : (Instr.otdr).wf = true ∧ (Instr.anyOther .ix .halt).wf = true := by decide

theorem witness_ControlStateHasOnlyItsNamedWriters :
    (∃ t : State, exec .ldIA { State.reset with af := 0x3F00 } = .next t ∧ t.i = 0x3F) ∧
    (∃ t : State, exec .reti { State.reset with iff2 := true } = .next t ∧ t.iff1 = true) ∧
    (∃ t : State, exec (.anyOther .iy .ei) State.reset = .next t ∧ t.iff1 = true ∧ t.blocked = true) ∧
    (∃ t : State, exec .ini { State.reset with hl := 0x8000, bc := 0x0210, portIn := [0x77] } = .next t ∧ t.read8 0x8000 = 0x77 ∧
      t.portIn = [] ∧ { State.reset with hl := 0x8000 }.writtenBy .ini = [0x8000]) :=
  ⟨⟨_, rfl, rfl⟩, ⟨_, rfl, rfl⟩, ⟨_, rfl, rfl, rfl⟩, ⟨_, rfl, rfl, rfl, rfl⟩⟩

/-- The edge of the modes; a reset state has every queue empty and is `FlatRam`. -/
theorem witness_HostActionsChangeExactlyTheirPiece :
    2 < 3 ∧ intModeOf 2 = some .im2 ∧ intModeOf 3 = none ∧ State.reset.busVector = [] ∧ State.reset.portIn = [] ∧
    (∀ d ∈ State.reset.contention, d.1 ≠ Access.fetch 0x0000) ∧ State.reset.mem.isFlat = true := by decide

/-- Under `FlatRam` what `State.Stores` says of each byte has no further hypothesis. -/
theorem witness_Stores : State.reset.mem.isFlat = true ∧ State.reset.mem.switches = [] ∧ platform.isFlat = false := by decide

/-- `EX DE,HL` falls back; `LD SP,HL` does not. -/
theorem witness_FallbackExecutesTheContextNoneInstruction :
    decodeIn .plain [0xEB, 0x07] = .ok (.exDeHl, [0x07]) ∧ Instr.exDeHl.unsubstituted = true ∧
    decodeIn .plain [0xF9] = .ok (.ldSpHl, []) ∧ Instr.ldSpHl.unsubstituted = false ∧
    decodeIn (.index .ix) [0xF9] = .ok (.ldSpX .ix, []) ∧ Instr.halt.unsubstituted = true := ⟨rfl, rfl, rfl, rfl, rfl, rfl⟩

theorem witness_LoadIndexHalves : (Reg8.isHL .h || Reg8.isHL .b) = true ∧ (Reg8.isHL .a || Reg8.isHL .l) = true := by decide

/-- A and n both 99. -/
theorem witness_DecimalAdjustAfterAddIsDecimalAddition :
    (({ State.reset with af := 0x9900 }).reg8 .a).toNat / 16 ≤ 9 ∧ (({ State.reset with af := 0x9900 }).reg8 .a).toNat % 16 ≤ 9 ∧
    (0x99 : Byte).toNat / 16 ≤ 9 ∧ (0x99 : Byte).toNat % 16 ≤ 9 := by
  rw [show ({ State.reset with af := 0x9900 } : State).reg8 .a = (0x99 : Byte) from rfl]
  decide

/-- 99 + 99 = 198, by the two instructions one after the other. -/
theorem witness_DecimalAdjustAfterAdd_runs :
    (match exec (.addN 0x99) { State.reset with af := 0x9900 } with
      | .next t =>
        (match exec .daa t with
          | .next u => u.reg8 .a == 0x98 && u.flags.c
          | .fault _ | .refused _ => false)
      | .fault _ | .refused _ => false) = true := by decide

/-- Where the block forms repeat and where they end: BC at 1, and at 0, which wraps. -/
theorem witness_BlockTransfers_boundaries :
    nextHas { withCode 0 [0xED, 0xB0] [] with pc := 1, prefixMode := .extended, bc := 1 } (fun t => t.pc == 2 && t.bc == 0) = true ∧
    nextHas { withCode 0 [0xED, 0xB0] [] with pc := 1, prefixMode := .extended, bc := 0 } (fun t =>
      t.pc == 0 && t.bc == 0xFFFF) = true := by decide

theorem witness_Returns : ∀ y ∈ [Oct.o0, .o2, .o3, .o4, .o5, .o6, .o7], y ≠ .o1 := by decide

/-- The edges of the ranges of undefined opcodes, inside and outside. -/
theorem witness_CpuControl :
    (∀ op ∈ [(0x00 : Byte), 0x3F, 0x77, 0x7F, 0x80, 0x9F, 0xA4, 0xA7, 0xAC, 0xAF, 0xB4, 0xB7, 0xBC, 0xBF, 0xC0, 0xFF],
      undefinedEd op = true) ∧
    ∀ op ∈ [(0x40 : Byte), 0x76, 0x78, 0x7E, 0xA0, 0xA3, 0xA8, 0xAB, 0xB0, 0xB3, 0xB8, 0xBB], undefinedEd op = false := by decide

end Sys2Proof.Tests
end

/-! PROOFS. The family 10_state.md: what an instruction changes outside the working registers (O18), and the invariant of the legal
states (O15).

`Performs s xs t` says that `t` is `s` after updates of working registers and exactly the data accesses `xs`, in order. Every instruction
performs its own accesses, from the state to which `State.controlled` has added what the instruction writes of the control state
(`exec_performs`); O18 reads this off, and O15 takes its facts about `exec` from it. -/

namespace Sys2Proof.Machine

open Sys2Proof

/-! ### Updates of working registers, and accesses -/

/-- The state `s` with the working registers and the tacts of `t`. -/
def State.withRegistersOf (s t : State) : State :=
  { s with
    af := t.af, bc := t.bc, de := t.de, hl := t.hl, ix := t.ix, iy := t.iy, sp := t.sp, pc := t.pc, wz := t.wz, tacts := t.tacts }

/-- From `s` to `t` by updates of working registers and tacts and, in this order, the data accesses; where one of them changes the
state outside the registers, it does so by the model's own operation. -/
inductive Performs : State → List Access → State → Prop
  | done {s t : State} (h : t = s.withRegistersOf t) : Performs s [] t
  | read {s t : State} {a : Word} {xs : List Access} (h : Performs s xs t) : Performs s (.read a :: xs) t
  | write {s t : State} {a : Word} (v : Byte) {xs : List Access} (h : Performs (s.write8 a v) xs t) : Performs s (.write a :: xs) t
  | portRead {s t : State} {p : Word} {xs : List Access} (h : Performs s.portDrawn xs t) : Performs s (.portRead p :: xs) t
  | portWrite {s t : State} {p : Word} (v : Byte) {xs : List Access} (h : Performs (s.portWrite p v) xs t) :
    Performs s (.portWrite p :: xs) t

namespace Performs

variable {s t u : State} {xs : List Access}

/-- Updates of working registers may follow. -/
theorem registers (h : Performs s xs t) (hu : u = t.withRegistersOf u) : Performs s xs u := by
  induction h with
  | @done s t ht =>
    refine .done ?_
    calc u = t.withRegistersOf u := hu
      _ = (s.withRegistersOf t).withRegistersOf u := by rw [← ht]
      _ = s.withRegistersOf u := rfl
  | read _ ih => exact .read (ih hu)
  | write v _ ih => exact .write v (ih hu)
  | portRead _ ih => exact .portRead (ih hu)
  | portWrite v _ ih => exact .portWrite v (ih hu)

/-- Updates of working registers may come before. -/
theorem afterRegisters (h : Performs (s.withRegistersOf u) xs t) : Performs s xs t := by
  generalize hr : s.withRegistersOf u = r at h
  induction h generalizing s with
  | @done r t ht =>
    subst hr
    exact .done ht
  | read _ ih => exact .read (ih hr)
  | write v _ ih => exact .write v (ih (by rw [← hr]; rfl))
  | portRead _ ih => exact .portRead (ih (by rw [← hr]; rfl))
  | portWrite v _ ih => exact .portWrite v (ih (by rw [← hr]; rfl))

/-! #### The model's updates of working registers -/

theorem refl : Performs s [] s := .done rfl

theorem spend {n : Nat} (h : Performs s xs t) : Performs s xs (t.spend n) := h.registers rfl

theorem goTo {a : Word} (h : Performs s xs t) : Performs s xs (t.goTo a) := h.registers rfl

theorem latch {a : Word} (h : Performs s xs t) : Performs s xs { t with wz := a } := h.registers rfl

theorem latchNext {a : Word} (h : Performs s xs t) : Performs s xs (t.latchNext a) := h.registers rfl

theorem afterLatchEa {x : Index} {d : Byte} (h : Performs (s.latchEa x d) xs t) : Performs s xs t :=
  afterRegisters (u := s.latchEa x d) h

theorem setFlags {g : Flags} (h : Performs s xs t) : Performs s xs (t.setFlags g) := h.registers rfl

theorem setAF {v : Byte × Flags} (h : Performs s xs t) : Performs s xs (t.setAF v) := h.registers rfl

theorem setReg8 {r : Reg8} {v : Byte} (h : Performs s xs t) : Performs s xs (t.setReg8 r v) :=
  h.registers (by cases r <;> rfl)

theorem setPair {p : Pair} {v : Word} (h : Performs s xs t) : Performs s xs (t.setPair p v) :=
  h.registers (by cases p <;> rfl)

theorem setStackPair {q : StackPair} {v : Word} (h : Performs s xs t) : Performs s xs (t.setStackPair q v) :=
  h.registers (by cases q <;> rfl)

theorem setIndex {x : Index} {v : Word} (h : Performs s xs t) : Performs s xs (t.setIndex x v) :=
  h.registers (by cases x <;> rfl)

theorem setIndexHalf {x : Index} {q : Half} {v : Byte} (h : Performs s xs t) : Performs s xs (t.setIndexHalf x q v) := by
  cases q <;> exact h.setIndex

theorem setReg8x {x : Index} {r : Reg8} {v : Byte} (h : Performs s xs t) : Performs s xs (t.setReg8x x r v) :=
  h.registers (by cases x <;> cases r <;> rfl)

theorem repeatIf {b : Bool} (h : Performs s xs t) : Performs s xs (t.repeatIf b) := h.registers (by cases b <;> rfl)

/-- A condition decides what is done and which accesses are made. -/
theorem ite {c : Bool} {ys : List Access} (ht : Performs s xs t) (hf : Performs s ys u) :
    Performs s (if c then xs else ys) (if c then t else u) := by
  cases c
  · exact hf
  · exact ht

/-! #### The model's operations on memory and on ports -/

theorem write8 {a : Word} {v : Byte} : Performs s [.write a] (s.write8 a v) := .write v .refl

theorem write16 {a v : Word} : Performs s (writesWord a) (s.write16 a v) := .write _ (.write _ .refl)

/-- A push writes at SP - 1, then at SP - 2. -/
theorem push16 {v : Word} : Performs s s.pushAccesses (s.push16 v) := by
  have hsp : s.sp - 2 = s.sp - 1 - 1 := by bv_omega
  rw [State.pushAccesses, hsp]
  exact .write (hi v) (.write (lo v) (.done rfl))

theorem dropped16 : Performs s s.popAccesses s.dropped16 := .read (.read (.done rfl))

theorem replaceTop {v : Word} : Performs s s.exchangeAccesses (s.replaceTop v) := .read (.read (.write _ (.write _ .refl)))

theorem loadA {a : Word} : Performs s [.read a] (s.loadA a) := .read (.done rfl)

theorem storeA {a : Word} : Performs s [.write a] (s.storeA a) := .write s.a (.done rfl)

theorem stepAt {f : Byte → Flags → Byte × Flags} {a : Word} : Performs s (readsAndWrites a) (s.stepAt f a) :=
  .read (.write (f (s.read8 a) s.flags).1 (.done rfl))

theorem rotateAt {f : Byte → Bool → Byte × Bool} {a : Word} : Performs s (readsAndWrites a) (s.rotateAt f a) :=
  .read (.write (f (s.read8 a) s.flags.c).1 (.done rfl))

theorem changeAt {a : Word} {v : Byte} : Performs s (readsAndWrites a) (s.write8 a v) := .read .write8

theorem rotateDigits {m a : Byte} : Performs s (readsAndWrites s.hl) (s.rotateDigits m a) := .read (.write m (.done rfl))

theorem blockLoad {delta : Word} : Performs s s.blockLoadAccesses (s.blockLoad delta) :=
  .read (.write (s.read8 s.hl) (.done rfl))

theorem blockCompare {delta : Word} : Performs s [.read s.hl] (s.blockCompare delta) := .read (.done rfl)

theorem inFromBc : Performs s [.portRead s.bc] s.inFromBc := .portRead (.done rfl)

theorem outToBc {v : Byte} : Performs s [.portWrite s.bc] (s.outToBc v) := .portWrite v (.done rfl)

theorem blockIn {delta : Word} : Performs s s.blockInAccesses (s.blockIn delta) :=
  .portRead (.write (s.portByte s.bc) (.done rfl))

theorem blockOut {delta : Word} : Performs s s.blockOutAccesses (s.blockOut delta) :=
  .read (.portWrite (s.read8 s.hl) (.done rfl))

end Performs

/-! ### What an instruction writes of the control state -/

/-- The state `s` with what instruction `i` itself writes outside the working registers, memory and ports. -/
def State.controlled (s : State) : Instr → State
  | .ldIA => { s with i := s.a }
  | .ldRegRA => { s with r := s.a }
  | .reti | .retn _ => { s with iff1 := s.iff2 }
  | .im0 _ => { s with im := .im0 }
  | .im1 _ => { s with im := .im1 }
  | .im2 _ => { s with im := .im2 }
  | .di | .anyOther _ .di => { s with iff1 := false, iff2 := false }
  | .ei | .anyOther _ .ei => { s with iff1 := true, iff2 := true, blocked := true }
  | .halt | .anyOther _ .halt => { s with halted := true }
  | .exAfAf | .anyOther _ .exAfAf => { s with afShadow := s.af }
  | .exx | .anyOther _ .exx => { s with bcShadow := s.bc, deShadow := s.de, hlShadow := s.hl }
  | .ddPrefix | .ddPrefixX _ => s.selectIndex .ix
  | .fdPrefix | .fdPrefixX _ => s.selectIndex .iy
  | .edPrefix | .edPrefixX _ => s.selectExtended
  | .cbPrefix | .cbPrefixX _ => s.selectBit
  | _ => s

/-- Behind a DD or FD that has no effect an instruction does what it does in context None, or is refused (R115). -/
theorem execAnyOther_next {x : Index} {j : Instr} {s t : State} (h : execAnyOther x j s = .next t) :
    exec j s = .next t ∧ s.controlled (.anyOther x j) = s.controlled j ∧ ∀ y k, j ≠ .anyOther y k := by
  revert h
  cases j <;> simp [execAnyOther, exec, State.controlled]

/-! ### Every instruction performs its accesses -/

/-- An instruction that is no fall-back performs its accesses: one line for the instructions whose meanings have one form. -/
theorem exec_performs_core {i : Instr} {s t : State} (h : exec i s = .next t) (hi : ∀ x j, i ≠ .anyOther x j) :
    Performs (s.controlled i) (coreAccesses s i) t := by
  cases i
  case anyOther x j => exact absurd rfl (hi x j)
  -- the control state; nothing
  case nop | halt | di | ei | im0 | im1 | im2 | cbPrefix | ddPrefix | edPrefix | fdPrefix | cbPrefixX | ddPrefixX | edPrefixX
    | fdPrefixX | nopEd =>
    cases h; exact .refl
  -- registers alone
  case exAfAf | exx | exDeHl | jpIndHl | jpX | ldSpHl | ldSpX | addHlRp | adcHlRp | sbcHlRp | ldIA | ldRegRA =>
    cases h; exact .done rfl
  case addXRp => cases h; exact .spend (.latch (.setIndex (.setFlags .refl)))
  case jr | jpNn => cases h; exact .spend (.goTo .refl)
  case djnz | jrCc | jpCcNn => cases h; refine .done ?_; split <;> rfl
  case ldAI | ldARegR => cases h; exact .spend (.setAF .refl)
  case rlca | rrca | rla | rra | daa | cpl | neg | addR | addXHalf | adcR | adcXHalf | subR | subXHalf | sbcR | sbcXHalf | andR
    | andXHalf | xorR | xorXHalf | orR | orXHalf =>
    cases h; exact .setAF .refl
  case addN | adcN | subN | sbcN | andN | xorN | orN => cases h; exact .spend (.setAF .refl)
  case scf | ccf | bitR | cpR | cpXHalf => cases h; exact .setFlags .refl
  case cpN => cases h; exact .spend (.setFlags .refl)
  case ldRR | resR | setR => cases h; exact .setReg8 .refl
  case incR | decR | rlcR | rrcR | rlR | rrR | slaR | sraR | sllR | srlR => cases h; exact .setReg8 (.setFlags .refl)
  case ldRN => cases h; exact .spend (.setReg8 .refl)
  case ldRpNn | incRp | decRp => cases h; exact .spend (.setPair .refl)
  case ldXNn | incX | decX => cases h; exact .spend (.setIndex .refl)
  case incXHalf | decXHalf => cases h; exact .setIndexHalf (.setFlags .refl)
  case ldXHalfN => cases h; exact .spend (.setIndexHalf .refl)
  case ldRRHalves => cases h; exact .setReg8x .refl
  -- a byte read
  case ldAIndBc | ldAIndDe | ldAIndNn => cases h; exact .spend .loadA
  case ldRIndHl => cases h; exact .spend (.setReg8 (.read .refl))
  case ldRIdx => cases h; exact .spend (.setReg8 (.afterLatchEa (.read .refl)))
  case addIndHl | adcIndHl | subIndHl | sbcIndHl | andIndHl | xorIndHl | orIndHl => cases h; exact .spend (.setAF (.read .refl))
  case cpIndHl | bitIndHl => cases h; exact .spend (.setFlags (.read .refl))
  case addIdx | adcIdx | subIdx | sbcIdx | andIdx | xorIdx | orIdx => cases h; exact .spend (.setAF (.afterLatchEa (.read .refl)))
  case cpIdx | bitIdx => cases h; exact .spend (.setFlags (.afterLatchEa (.read .refl)))
  case cpi | cpd => cases h; exact .blockCompare
  case cpir | cpdr => cases h; exact .repeatIf .blockCompare
  -- a byte written
  case ldIndHlR | ldIndHlN => cases h; exact .spend .write8
  case ldIndBcA | ldIndDeA | ldIndNnA => cases h; exact .spend .storeA
  case ldIdxR | ldIdxN => cases h; exact .spend (.afterLatchEa .write8)
  -- a byte read and written
  case incIndHl | decIndHl => cases h; exact .spend .stepAt
  case incIdx | decIdx => cases h; exact .spend (.afterLatchEa .stepAt)
  case rlcIndHl | rrcIndHl | rlIndHl | rrIndHl | slaIndHl | sraIndHl | sllIndHl | srlIndHl => cases h; exact .spend .rotateAt
  case rlcIdx | rrcIdx | rlIdx | rrIdx | slaIdx | sraIdx | sllIdx | srlIdx => cases h; exact .spend (.afterLatchEa .rotateAt)
  case rlcIdxR | rrcIdxR | rlIdxR | rrIdxR | slaIdxR | sraIdxR | sllIdxR | srlIdxR =>
    cases h; exact .spend (.setReg8 (.afterLatchEa .rotateAt))
  case resIndHl | setIndHl => cases h; exact .spend .changeAt
  case resIdx | setIdx => cases h; exact .spend (.afterLatchEa .changeAt)
  case resIdxR | setIdxR => cases h; exact .spend (.setReg8 (.afterLatchEa .changeAt))
  case rld | rrd => cases h; exact .rotateDigits
  case ldi | ldd => cases h; exact .blockLoad
  case ldir | lddr => cases h; exact .repeatIf .blockLoad
  -- a word read
  case ldHlIndNn => cases h; exact .spend (.latchNext (.setPair (.read (.read .refl))))
  case ldXIndNn => cases h; exact .spend (.latchNext (.setIndex (.read (.read .refl))))
  case ldRpIndNn => cases h; exact .spend (.latchNext (.setPair (.read (.read .refl))))
  case popX => cases h; exact .spend (.setIndex .dropped16)
  case popRp => cases h; exact .spend (.setStackPair .dropped16)
  case ret => cases h; exact .spend (.goTo .dropped16)
  case reti | retn => cases h; exact .spend (.read (.read (.done rfl)))
  case retCc => cases h; exact .ite (.spend (.goTo .dropped16)) (.spend .refl)
  -- a word written
  case ldIndNnHl | ldIndNnX | ldIndNnRp => cases h; exact .spend (.latchNext .write16)
  case pushRp | pushX => cases h; exact .spend .push16
  case callNn | rst => cases h; exact .spend (.goTo .push16)
  case callCcNn => cases h; exact .ite (.spend (.goTo .push16)) (.spend (.latch .refl))
  case exIndSpHl => cases h; exact .spend (.registers .replaceTop rfl)
  case exIndSpX => cases h; exact .spend (.latch (.setIndex .replaceTop))
  -- ports
  case inAIndN => cases h; exact .portRead (.done rfl)
  case outIndNA => cases h; exact .portWrite _ (.done rfl)
  case inIndC => cases h; exact .inFromBc
  case inRIndC => cases h; exact .setReg8 .inFromBc
  case outIndCR | outIndC0 => cases h; exact .outToBc
  case ini | ind => cases h; exact .blockIn
  case inir | indr => cases h; exact .repeatIf .blockIn
  case outi | outd => cases h; exact .blockOut
  case otir | otdr => cases h; exact .repeatIf .blockOut

/-- Every instruction performs the accesses named for it, and writes of the control state what `State.controlled` says. -/
theorem exec_performs {i : Instr} {s t : State} (h : exec i s = .next t) : Performs (s.controlled i) (s.dataAccesses i) t := by
  cases i
  case anyOther x j =>
    obtain ⟨hj, hc, hn⟩ := execAnyOther_next h
    rw [hc]
    exact exec_performs_core hj hn
  all_goals exact exec_performs_core h nofun

/-! ### What the accesses leave -/

/-- The address that the access writes, if any. -/
def Access.writes : Access → Option Word
  | .write a => some a
  | .fetch _ | .operand _ | .read _ | .portRead _ | .portWrite _ | .busVector => none

/-- The port that the access reads, if any. -/
def Access.readsPort : Access → Option Word
  | .portRead p => some p
  | .fetch _ | .operand _ | .read _ | .write _ | .portWrite _ | .busVector => none

/-- The port that the access writes, if any. -/
def Access.writesPort : Access → Option Word
  | .portWrite p => some p
  | .fetch _ | .operand _ | .read _ | .write _ | .portRead _ | .busVector => none

theorem writtenBy_eq (s : State) (i : Instr) : s.writtenBy i = (s.dataAccesses i).filterMap Access.writes := rfl

theorem portsReadBy_eq (s : State) (i : Instr) : s.portsReadBy i = (s.dataAccesses i).filterMap Access.readsPort := rfl

theorem portsWrittenBy_eq (s : State) (i : Instr) : s.portsWrittenBy i = (s.dataAccesses i).filterMap Access.writesPort := rfl

namespace Performs

variable {s t : State} {xs : List Access}

/-- Memory has taken one byte for each write access, in order (20_memory.md R83, R98). -/
theorem mem_eq (h : Performs s xs t) :
    ∃ vs : List Byte, vs.length = (xs.filterMap Access.writes).length ∧
      t.mem = s.mem.writeAll ((xs.filterMap Access.writes).zip vs) := by
  induction h with
  | done h => exact ⟨[], rfl, (congrArg State.mem h :)⟩
  | read _ ih => exact ih
  | portRead _ ih => exact ih
  | portWrite _ _ ih => exact ih
  | write v _ ih =>
    obtain ⟨vs, hlen, hmem⟩ := ih
    exact ⟨v :: vs, congrArg (· + 1) hlen, hmem⟩

/-- One output event for each port write, in order (R88). -/
theorem portOut_eq (h : Performs s xs t) :
    ∃ vs : List Byte, vs.length = (xs.filterMap Access.writesPort).length ∧
      t.portOut = s.portOut ++ (xs.filterMap Access.writesPort).zip vs := by
  induction h with
  | @done s t h => exact ⟨[], rfl, (congrArg State.portOut h).trans (List.append_nil _).symm⟩
  | read _ ih => exact ih
  | write _ _ ih => exact ih
  | portRead _ ih => exact ih
  | portWrite v _ ih =>
    obtain ⟨vs, hlen, hout⟩ := ih
    exact ⟨v :: vs, congrArg (· + 1) hlen, hout.trans (List.append_assoc ..)⟩

/-- One draw for each port read (R88). -/
theorem portIn_eq (h : Performs s xs t) :
    t.portIn = s.portIn.drop (xs.filterMap Access.readsPort).length ∧
    t.draws = s.draws + (xs.filterMap Access.readsPort).length := by
  induction h with
  | done h => exact ⟨(congrArg State.portIn h :), (congrArg State.draws h :)⟩
  | read _ ih => exact ih
  | write _ _ ih => exact ih
  | portWrite _ _ ih => exact ih
  | portRead _ ih => simpa [Access.readsPort, Nat.add_assoc, Nat.add_comm] using ih

/-- No access and no update of a working register writes the control state. -/
theorem control_fields (h : Performs s xs t) :
    t.i = s.i ∧ t.r = s.r ∧ t.iff1 = s.iff1 ∧ t.iff2 = s.iff2 ∧ t.im = s.im ∧ t.halted = s.halted ∧ t.blocked = s.blocked ∧
    t.prefixMode = s.prefixMode ∧ t.indexMode = s.indexMode ∧ t.resetPending = s.resetPending ∧ t.nmiPending = s.nmiPending ∧
    t.intLine = s.intLine ∧ t.afShadow = s.afShadow ∧ t.bcShadow = s.bcShadow ∧ t.deShadow = s.deShadow ∧
    t.hlShadow = s.hlShadow ∧ t.busVector = s.busVector ∧ t.contention = s.contention ∧ t.failure = s.failure ∧
    t.tactWidth = s.tactWidth := by
  induction h with
  | done h => rw [h]; and_intros <;> rfl
  | read _ ih => exact ih
  | write _ _ ih => exact ih
  | portRead _ ih => exact ih
  | portWrite _ _ ih => exact ih

end Performs

/-! ### O18 -/

/-- What no instruction writes but by its accesses. -/
@[simp] theorem controlled_fields (i : Instr) (s : State) :
    (s.controlled i).resetPending = s.resetPending ∧ (s.controlled i).nmiPending = s.nmiPending ∧
    (s.controlled i).intLine = s.intLine ∧ (s.controlled i).mem = s.mem ∧ (s.controlled i).portOut = s.portOut ∧
    (s.controlled i).portIn = s.portIn ∧ (s.controlled i).draws = s.draws ∧ (s.controlled i).busVector = s.busVector ∧
    (s.controlled i).contention = s.contention ∧ (s.controlled i).failure = s.failure ∧
    (s.controlled i).tactWidth = s.tactWidth := by
  unfold State.controlled
  split <;> and_intros <;> rfl

/-- The writers of the control state that the spec names (10_state.md R31, R45 to R52). -/
theorem controlled_writers (i : Instr) (s : State) :
    ((s.controlled i).i = s.i ∨ i = .ldIA) ∧
    ((s.controlled i).r = s.r ∨ i = .ldRegRA) ∧
    (((s.controlled i).iff1 = s.iff1 ∧ (s.controlled i).iff2 = s.iff2) ∨ coreInstr i = .di ∨ coreInstr i = .ei ∨
      ((s.controlled i).iff1 = s.iff2 ∧ (s.controlled i).iff2 = s.iff2 ∧ (i = .reti ∨ ∃ y, i = .retn y))) ∧
    ((s.controlled i).im = s.im ∨ ∃ y, i = .im0 y ∨ i = .im1 y ∨ i = .im2 y) ∧
    ((s.controlled i).halted = s.halted ∨ coreInstr i = .halt) ∧
    ((s.controlled i).blocked = s.blocked ∨ coreInstr i = .ei) ∧
    (((s.controlled i).prefixMode = s.prefixMode ∧ (s.controlled i).indexMode = s.indexMode) ∨ i.isPrefixStep = true) ∧
    ((s.controlled i).afShadow = s.afShadow ∨ coreInstr i = .exAfAf) ∧
    (((s.controlled i).bcShadow = s.bcShadow ∧ (s.controlled i).deShadow = s.deShadow ∧
      (s.controlled i).hlShadow = s.hlShadow) ∨ coreInstr i = .exx) := by
  unfold State.controlled
  split <;> simp [coreInstr, Instr.isPrefixStep, State.selectIndex, State.selectExtended, State.selectBit]

/-- Settles O18: an instruction performs the accesses named for it, from the state that its named control writes leave. -/
theorem controlStateHasOnlyItsNamedWriters : Obligations.ControlStateHasOnlyItsNamedWriters := by
  unfold Obligations.ControlStateHasOnlyItsNamedWriters
  intro i s t h
  have hp := exec_performs h
  obtain ⟨vs, hlen, hmem⟩ := hp.mem_eq
  obtain ⟨os, holen, hout⟩ := hp.portOut_eq
  obtain ⟨hin, hdraws⟩ := hp.portIn_eq
  obtain ⟨hi, hr, hiff, him, hhalt, hblock, hmode, haf, hexx⟩ := controlled_writers i s
  simp only [controlled_fields] at hmem hout hin hdraws
  simp only [hp.control_fields, controlled_fields, writtenBy_eq, portsReadBy_eq, portsWrittenBy_eq]
  exact ⟨hi, hr, hiff, him, hhalt, hblock, hmode, trivial, trivial, trivial, haf, hexx,
    ⟨vs, hlen, State.stores_of_mem hmem, State.read8_of_writeAll hmem⟩, ⟨os, holen, hout⟩, hin, hdraws,
    trivial, trivial, trivial, trivial⟩

end Sys2Proof.Machine

namespace Sys2Proof

/-! ### What a shape can give -/

/-- Every instruction that the shape can give satisfies `P`. -/
def Shape.All (P : Instr → Prop) : Shape → Prop
  | .op i => P i
  | .opN f => ∀ n, P (f n)
  | .opNn f => ∀ nn, P (f nn)
  | .opDn f => ∀ d n, P (f d n)

theorem Shape.All.operands {P : Instr → Prop} {sh : Shape} (hsh : sh.All P) {bs rest : List Byte} {i : Instr}
    (h : sh.operands bs = .ok (i, rest)) : P i := by
  unfold Shape.operands at h
  split at h <;> cases h
  · exact hsh
  · exact hsh _
  · exact hsh _
  · exact hsh _ _

theorem shapeEd1_not_isPrefixStep (op : Byte) (y z : Oct) : (shapeEd1 op y z).All fun i => i.isPrefixStep = false := by
  cases z
  case o3 => cases y <;> exact fun _ => rfl
  all_goals cases y <;> rfl

/-- No byte after ED is a step to another context (30_encoding.md R114, R132). -/
theorem shapeEd_not_isPrefixStep (op : Byte) : (shapeEd op).All fun i => i.isPrefixStep = false := by
  unfold shapeEd
  split
  · exact shapeEd1_not_isPrefixStep ..
  · unfold shapeEd2
    split <;> rfl
  · rfl

end Sys2Proof

namespace Sys2Proof.Machine

open Sys2Proof

/-- In mode Extended no step to another context is decoded. -/
theorem decoded_extended {s : State} {i : Instr} {n : Nat} (h : s.decoded = .ok (i, n)) (hs : s.prefixMode = .extended) :
    i.isPrefixStep = false := by
  have hc : s.context = .ed := by simp [State.context, hs]
  unfold State.decoded at h
  rw [hc] at h
  split at h
  · cases h
    exact (shapeEd_not_isPrefixStep (s.read8 s.pc)).operands ‹_›
  · cases h

/-! ### The invariant, but for the tact counter -/

/-- The parts of `State.legal` that do not speak of the tact counter. -/
structure State.Settled (s : State) : Prop where
  /-- Memory is in its canonical form. -/
  mem : s.mem.wf = true
  /-- The pair (Extended, IX or IY) does not occur (R110). -/
  mode : s.prefixMode = .extended → s.indexMode = none
  /-- HALT holds at a boundary only (R611). -/
  halt : s.halted = true → s.boundary = true

theorem legal_iff (s : State) : s.legal = true ↔ s.Settled ∧ s.narrow s.tacts = s.tacts := by
  simp only [State.legal, Bool.and_eq_true, Bool.or_eq_true, Bool.not_eq_true', beq_iff_eq, bne_iff_ne, ne_eq]
  constructor
  · rintro ⟨⟨⟨hm, ht⟩, hp⟩, hh⟩
    exact ⟨⟨hm, fun h => hp.resolve_left (not_not.mpr h), fun h => hh.resolve_left (by simp [h])⟩, ht⟩
  · rintro ⟨⟨hm, hp, hh⟩, ht⟩
    exact ⟨⟨⟨hm, ht⟩, or_iff_not_imp_left.mpr fun h => hp (not_not.mp h)⟩,
      or_iff_not_imp_left.mpr fun h => hh (Bool.not_eq_false _ ▸ h)⟩

theorem settled_of_boundary {s : State} (hm : s.mem.wf = true) (hp : s.prefixMode = .plain) (hx : s.indexMode = none) : s.Settled :=
  ⟨hm, fun _ => hx, fun _ => by simp [State.boundary, hp, hx]⟩

/-! #### The acknowledgments -/

theorem enterHandler_settled {s : State} (hs : s.Settled) (iff2 : Bool) (vector : State → Word) (cost : Nat) :
    (s.enterHandler iff2 vector cost).Settled := by
  rw [enterHandler_spec]
  exact ⟨MemoryCollaborator.wf_writeAll _ hs.mem, hs.mode, nofun⟩

theorem intAck_settled {s : State} (hs : s.Settled) : s.intAck.Settled := by
  unfold State.intAck
  split
  · exact enterHandler_settled hs ..
  · exact enterHandler_settled hs ..
  · exact enterHandler_settled (s := s.busDrawn) ⟨hs.mem, hs.mode, hs.halt⟩ ..

/-! #### The instructions -/

theorem Performs.mem_wf {s t : State} {xs : List Access} (h : Performs s xs t) (hs : s.mem.wf = true) : t.mem.wf = true := by
  obtain ⟨vs, -, hmem⟩ := h.mem_eq
  rw [hmem]
  exact MemoryCollaborator.wf_writeAll _ hs

/-- The steps to another context (49_cpu_control.md R498 to R501). -/
theorem controlled_of_isPrefixStep {i : Instr} (hi : i.isPrefixStep = true) (s : State) :
    (∃ x, s.controlled i = s.selectIndex x) ∨ s.controlled i = s.selectExtended ∨ s.controlled i = s.selectBit := by
  cases i
  case ddPrefix | ddPrefixX | fdPrefix | fdPrefixX => exact .inl ⟨_, rfl⟩
  case edPrefix | edPrefixX => exact .inr (.inl rfl)
  case cbPrefix | cbPrefixX => exact .inr (.inr rfl)
  all_goals cases hi

theorem controlled_mode_of_isPrefixStep {i : Instr} (hi : i.isPrefixStep = true) {s : State} (hp : s.prefixMode ≠ .extended) :
    (s.controlled i).halted = s.halted ∧ ((s.controlled i).prefixMode = .extended → (s.controlled i).indexMode = none) := by
  rcases controlled_of_isPrefixStep hi s with ⟨x, hc⟩ | hc | hc <;> rw [hc]
  · exact ⟨rfl, fun he => absurd he hp⟩
  · exact ⟨rfl, fun _ => rfl⟩
  · exact ⟨rfl, nofun⟩

theorem exec_settled_of_isPrefixStep {i : Instr} {s t : State} (h : exec i s = .next t) (hi : i.isPrefixStep = true)
    (hm : s.mem.wf = true) (hp : s.prefixMode ≠ .extended) (hh : s.halted = false) : t.Settled := by
  have hperf := exec_performs h
  obtain ⟨hhalt, hmode⟩ := controlled_mode_of_isPrefixStep hi hp
  exact ⟨hperf.mem_wf (by simpa using hm), by simpa only [hperf.control_fields] using hmode,
    by simp [hperf.control_fields, hhalt, hh]⟩

/-- After any other opcode the machine is at a boundary (60_exceptions.md R611). -/
theorem exec_settled_at_boundary {i : Instr} {s t : State} (h : exec i s = .next t) (hi : i.isPrefixStep = false)
    (hm : s.mem.wf = true) (hp : s.prefixMode = .plain) (hx : s.indexMode = none) : t.Settled := by
  have hperf := exec_performs h
  obtain ⟨-, -, -, -, -, -, hmode, -, -⟩ := controlled_writers i s
  obtain ⟨hcp, hcx⟩ := hmode.resolve_right (by simp [hi])
  exact settled_of_boundary (hperf.mem_wf (by simpa using hm)) (by simp [hperf.control_fields, hcp, hp])
    (by simp [hperf.control_fields, hcx, hx])

theorem instrStep_settled {s t : State} (hs : s.Settled) (hh : s.halted = false) (h : s.instrStep = .next t) : t.Settled := by
  unfold State.instrStep at h
  split at h
  next i n hd =>
    cases hi : i.isPrefixStep
    · refine exec_settled_at_boundary h hi ?_ ?_ ?_ <;> simp [State.entering, hi, hs.mem]
    · have hp : s.prefixMode ≠ .extended := fun he => by simp [decoded_extended hd he] at hi
      refine exec_settled_of_isPrefixStep h hi ?_ ?_ ?_ <;> simp [State.entering, hi, hs.mem, hp, hh]
  next => cases h

/-! #### The step -/

/-- The step fetches only where HALT does not hold at a boundary (R611). -/
theorem stepKind_instruction {s : State} (h : s.stepKind = .instruction) : ¬(s.boundary = true ∧ s.halted = true) := by
  unfold State.stepKind at h
  split_ifs at h with _ _ _ hhalt
  simpa using hhalt

theorem work_settled {s t : State} (hs : s.Settled) (h : s.work = .next t) : t.Settled := by
  unfold State.work at h
  split at h
  next => cases h; exact settled_of_boundary hs.mem rfl rfl
  next => cases h; exact enterHandler_settled (s := { s with nmiPending := false }) ⟨hs.mem, hs.mode, hs.halt⟩ ..
  next => cases h; exact intAck_settled hs
  next => cases h; exact ⟨hs.mem, hs.mode, hs.halt⟩
  next hk =>
    refine instrStep_settled hs (Bool.eq_false_iff.mpr fun hh => ?_) h
    exact stepKind_instruction hk ⟨hs.halt hh, hh⟩

/-- Settles O15: contention changes no part of the invariant, the work of each kind of step keeps it, and the counter is narrowed
last. -/
theorem everyStepKeepsTheStateLegal : Obligations.EveryStepKeepsTheStateLegal := by
  unfold Obligations.EveryStepKeepsTheStateLegal
  intro s t hs h
  obtain ⟨hset, -⟩ := (legal_iff s).mp hs
  obtain ⟨-, u, hu, rfl⟩ := step_eq_next h
  have hc : (s.contended s.stepAccesses).Settled := by
    rw [contended_eq]
    exact ⟨hset.mem, hset.mode, hset.halt⟩
  obtain ⟨hm, hmode, hhalt⟩ := work_settled hc hu
  exact (legal_iff _).mpr ⟨⟨hm, hmode, hhalt⟩, narrow_narrow u _⟩

end Sys2Proof.Machine

/-! PROOFS. The family 30_encoding.md: decoding undoes encoding (O1), the fall-back of contexts IX and IY (O20), and the blocked flag
and the context after a step (O12).

O1 goes format by format (R111): `reads_op` and its kin turn the shape of an opcode byte into what bytes stand for. The fall-back is the
one case that rests on another context: the byte of a context-None instruction decides whether a row of context IX|IY matches
(`shapePlain_unsubstituted`), which O20 says and the fall-back's part of O1 uses. -/

namespace Sys2Proof

open Sys2Proof.Machine (hi lo word octVal Reads word_hi_lo exec)

/-! ### The fields of an opcode byte (30_encoding.md R127) -/

theorem octVal_lt (y : Oct) : octVal y < 8 := by cases y <;> decide

theorem toNat_opcode {x : Nat} (hx : x < 4) (y z : Oct) : (opcode x y z).toNat = x * 64 + octVal y * 8 + octVal z := by
  have hy := octVal_lt y
  have hz := octVal_lt z
  rw [opcode, BitVec.toNat_ofNat]
  omega

theorem octAt_eq {b : Byte} {k : Nat} {y : Oct} (h : (b.toNat >>> k) % 8 = octVal y) : octAt b k = y := by
  unfold octAt
  rw [h]
  cases y <;> rfl

@[simp] theorem fieldX_opcode {x : Nat} (hx : x < 4) (y z : Oct) : fieldX (opcode x y z) = x := by
  have hy := octVal_lt y
  have hz := octVal_lt z
  rw [fieldX, toNat_opcode hx, Nat.shiftRight_eq_div_pow]
  omega

@[simp] theorem fieldY_opcode {x : Nat} (hx : x < 4) (y z : Oct) : fieldY (opcode x y z) = y := by
  have hy := octVal_lt y
  have hz := octVal_lt z
  refine octAt_eq ?_
  rw [toNat_opcode hx, Nat.shiftRight_eq_div_pow]
  omega

@[simp] theorem fieldZ_opcode {x : Nat} (hx : x < 4) (y z : Oct) : fieldZ (opcode x y z) = z := by
  have hz := octVal_lt z
  refine octAt_eq ?_
  rw [toNat_opcode hx, Nat.shiftRight_zero]
  omega

@[simp] theorem reg8Of_reg8Code (r : Reg8) : reg8Of (reg8Code r) = some r := by cases r <;> rfl

@[simp] theorem reg8Of_memory : reg8Of .o6 = none := rfl

/-- Every byte is the opcode byte of its fields. -/
theorem opcode_fields (b : Byte) : opcode (fieldX b) (fieldY b) (fieldZ b) = b := by revert b; decide +kernel

/-! ### From a shape to a reading (30_encoding.md R111, R113) -/

/-- But in IXCB and IYCB the opcode byte comes first (R118). -/
theorem decodeIn_cons {c : Context} (hc : ∀ x, c ≠ .indexCb x) (op : Byte) (bs : List Byte) :
    decodeIn c (op :: bs) = (shapeIn c 0 op).operands bs := by
  cases c
  case indexCb x => exact absurd rfl (hc x)
  all_goals rfl

section

variable {c : Context} {op : Byte}

theorem reads_op {i : Instr} (h : shapeIn c 0 op = .op i)
    (hc : ∀ x, c ≠ .indexCb x := by nofun) : Reads c [op] i := by
  intro rest
  rw [List.singleton_append, decodeIn_cons hc, h, Shape.operands]

theorem reads_opN {f : Byte → Instr} {n : Byte} (h : shapeIn c 0 op = .opN f)
    (hc : ∀ x, c ≠ .indexCb x := by nofun) : Reads c [op, n] (f n) := by
  intro rest
  rw [List.cons_append, decodeIn_cons hc, h]
  rfl

theorem reads_opNn {f : Word → Instr} {nn : Word} (h : shapeIn c 0 op = .opNn f)
    (hc : ∀ x, c ≠ .indexCb x := by nofun) : Reads c (op :: wordBytes nn) (f nn) := by
  intro rest
  have hw : Shape.operands (.opNn f) (wordBytes nn ++ rest) = .ok (f (word (hi nn) (lo nn)), rest) := rfl
  rw [List.cons_append, decodeIn_cons hc, h, hw, word_hi_lo]

theorem reads_opDn {f : Byte → Byte → Instr} {d n : Byte} (h : shapeIn c 0 op = .opDn f)
    (hc : ∀ x, c ≠ .indexCb x := by nofun) : Reads c [op, d, n] (f d n) := by
  intro rest
  rw [List.cons_append, decodeIn_cons hc, h]
  rfl

end

theorem reads_indexCb {x : Index} {d op : Byte} {i : Instr} (h : instrIndexCb x d op = i) : Reads (.indexCb x) [d, op] i := by
  subst h
  exact fun _ => rfl

/-! ### Context ED: the undefined opcodes (R135) -/

theorem shapeEd1_undefined {op : Byte} {y z : Oct} (h : undefinedEd (opcode 1 y z) = true) : shapeEd1 op y z = .op (.nopEd op) := by
  cases z
  case o7 =>
    cases y
    case o6 | o7 => rfl
    all_goals cases h
  all_goals cases y <;> cases h

theorem shapeEd2_undefined {op : Byte} {y z : Oct} (h : undefinedEd (opcode 2 y z) = true) : shapeEd2 op y z = .op (.nopEd op) := by
  unfold shapeEd2
  split
  case h_17 => rfl
  all_goals cases h

theorem shapeEd_undefined {op : Byte} (h : undefinedEd op = true) : shapeEd op = .op (.nopEd op) := by
  rw [← opcode_fields op] at h
  unfold shapeEd
  split
  next hx =>
    rw [hx] at h
    exact shapeEd1_undefined h
  next hx =>
    rw [hx] at h
    exact shapeEd2_undefined h
  next => rfl

/-! ### Every instruction that is no fall-back, by the format of its row -/

theorem reads_encode_row {i : Instr} (hi : i.wf = true) (hn : ∀ x j, i ≠ .anyOther x j) : Reads i.context (encode i) i := by
  cases i
  case anyOther x j => exact absurd rfl (hn x j)
  -- the opcode byte is fixed
  case nop | exAfAf | ldIndBcA | ldIndDeA | ldAIndBc | ldAIndDe | incIndHl | decIndHl | rlca | rrca | rla | rra | daa | cpl | scf | ccf
    | halt | addIndHl | adcIndHl | subIndHl | sbcIndHl | andIndHl | xorIndHl | orIndHl | cpIndHl | ret | exx | jpIndHl | ldSpHl | cbPrefix
    | exIndSpHl | exDeHl | di | ei | ddPrefix | edPrefix | fdPrefix | incX | decX | popX | exIndSpX | pushX | jpX | ldSpX | cbPrefixX
    | ddPrefixX | edPrefixX | fdPrefixX | rlcIndHl | rrcIndHl | rlIndHl | rrIndHl | slaIndHl | sraIndHl | sllIndHl | srlIndHl | inIndC
    | outIndC0 | reti | ldIA | ldRegRA | ldAI | ldARegR | rrd | rld | ldi | ldd | ldir | lddr | cpi | cpd | cpir | cpdr | ini | ind | inir
    | indr | outi | outd | otir | otdr => exact reads_op rfl
  case djnz | jr | ldIndHlN | addN | adcN | subN | sbcN | andN | xorN | orN | cpN | outIndNA | inAIndN | incIdx | decIdx | addIdx | adcIdx
    | subIdx | sbcIdx | andIdx | xorIdx | orIdx | cpIdx => exact reads_opN rfl
  case ldIndNnHl | ldIndNnA | ldHlIndNn | ldAIndNn | jpNn | callNn | ldXNn | ldIndNnX | ldXIndNn => exact reads_opNn rfl
  case ldIdxN => exact reads_opDn rfl
  case rlcIdx | rrcIdx | rlIdx | rrIdx | slaIdx | sraIdx | sllIdx | srlIdx => exact reads_indexCb rfl
  -- a pair, a condition or an index half is a field of it
  case addHlRp p | incRp p | decRp p | addXRp _ p | sbcHlRp p | adcHlRp p => exact reads_op (by cases p <;> rfl)
  case ldRpNn p _ | ldIndNnRp p _ | ldRpIndNn p _ => exact reads_opNn (by cases p <;> rfl)
  case popRp q | pushRp q => exact reads_op (by cases q <;> rfl)
  case jrCc cc _ => exact reads_opN (by cases cc <;> rfl)
  case retCc cc => exact reads_op (by cases cc <;> rfl)
  case jpCcNn cc _ | callCcNn cc _ => exact reads_opNn (by cases cc <;> rfl)
  case incXHalf q | decXHalf q | addXHalf q | adcXHalf q | subXHalf q | sbcXHalf q | andXHalf q | xorXHalf q | orXHalf q | cpXHalf q =>
    exact reads_op (by cases q <;> rfl)
  case ldXHalfN q _ => exact reads_opN (by cases q <;> rfl)
  -- a register or a number is a field of it
  case incR | decR | addR | adcR | subR | sbcR | andR | xorR | orR | cpR | ldRR | ldRIndHl | ldIndHlR | rst =>
    exact reads_op (c := .plain) (by simp [shapeIn, shapePlain, shapePlain0, shapePlain1, shapePlain2, shapePlain3, aluROf])
  case ldRN => exact reads_opN (c := .plain) (by simp [shapeIn, shapePlain, shapePlain0])
  case ldRRHalves x dst src =>
    have hHL : (dst.isHL || src.isHL) = true := hi
    exact reads_op (c := .index x) (by simp [shapeIn, shapeIndex, shapeIndexRow, shapeIndex1, hHL])
  case ldRIdx x r _ => exact reads_opN (c := .index x) (by simp [shapeIn, shapeIndex, shapeIndexRow, shapeIndex1])
  case ldIdxR x _ r =>
    exact reads_opN (c := .index x) (f := (.ldIdxR x · r)) (by simp [shapeIn, shapeIndex, shapeIndexRow, shapeIndex1])
  case rlcR | rrcR | rlR | rrR | slaR | sraR | sllR | srlR | bitR | bitIndHl | resR | resIndHl | setR | setIndHl =>
    exact reads_op (c := .cb) (by simp [shapeIn, instrCb, rotROf])
  case rlcIdxR | rrcIdxR | rlIdxR | rrIdxR | slaIdxR | sraIdxR | sllIdxR | srlIdxR | bitIdx | resIdx | resIdxR | setIdx | setIdxR =>
    exact reads_indexCb (by simp [instrIndexCb, rotIdxROf])
  case inRIndC | outIndCR | neg => exact reads_op (c := .ed) (by simp [shapeIn, shapeEd, shapeEd1])
  -- which numbers belong to the row is `Instr.wf`
  case retn y =>
    cases y
    case o1 => cases hi
    all_goals exact reads_op rfl
  case im0 y =>
    cases y
    case o0 | o1 | o4 | o5 => exact reads_op rfl
    all_goals cases hi
  case im1 y =>
    cases y
    case o2 | o6 => exact reads_op rfl
    all_goals cases hi
  case im2 y =>
    cases y
    case o3 | o7 => exact reads_op rfl
    all_goals cases hi
  case nopEd op => exact reads_op (shapeEd_undefined hi)

/-! ### The fall-back of contexts IX and IY (R115) -/

theorem shapePlain0_unsubstituted (x : Index) (y z : Oct) :
    (shapePlain0 y z).All fun j => j.unsubstituted = (shapeIndex0 x y z).isNone := by
  cases z
  case o0 =>
    cases y
    case o0 | o1 => rfl
    all_goals exact fun _ => rfl
  case o1 =>
    cases y
    case o1 | o3 | o5 | o7 => rfl
    all_goals exact fun _ => rfl
  case o2 =>
    cases y
    case o0 | o1 | o2 | o3 => rfl
    all_goals exact fun _ => rfl
  case o6 => cases y <;> exact fun _ => rfl
  all_goals cases y <;> rfl

theorem shapePlain1_unsubstituted (x : Index) (y z : Oct) :
    (shapePlain1 y z).All fun j => j.unsubstituted = (shapeIndex1 x y z).isNone := by
  unfold shapePlain1 shapeIndex1
  cases reg8Of y <;> cases reg8Of z
  case some.some dst src =>
    change (!dst.isHL && !src.isHL) = (if dst.isHL || src.isHL then some _ else none).isNone
    rw [← Bool.not_or]
    cases dst.isHL || src.isHL <;> rfl
  all_goals rfl

theorem shapePlain2_unsubstituted (x : Index) (y z : Oct) :
    (shapePlain2 y z).All fun j => j.unsubstituted = (shapeIndex2 x y z).isNone := by
  cases z <;> cases y <;> rfl

theorem shapePlain3_unsubstituted (x : Index) (y z : Oct) :
    (shapePlain3 y z).All fun j => j.unsubstituted = (shapeIndex3 x y z).isNone := by
  cases z
  case o2 | o4 | o6 => cases y <;> exact fun _ => rfl
  case o3 =>
    cases y
    case o0 | o2 | o3 => exact fun _ => rfl
    all_goals rfl
  case o5 =>
    cases y
    case o1 => exact fun _ => rfl
    all_goals rfl
  all_goals cases y <;> rfl

theorem shapePlain_unsubstituted (x : Index) (op : Byte) :
    (shapePlain op).All fun j => j.unsubstituted = (shapeIndexRow x op).isNone := by
  unfold shapePlain shapeIndexRow
  split
  · exact shapePlain0_unsubstituted ..
  · exact shapePlain1_unsubstituted ..
  · exact shapePlain2_unsubstituted ..
  · exact shapePlain3_unsubstituted ..

theorem shapeIndex0_not_anyOther (x : Index) (y z : Oct) :
    ∀ sh ∈ shapeIndex0 x y z, sh.All fun i => ∀ x' j, i ≠ .anyOther x' j := by
  unfold shapeIndex0
  split <;> rintro _ ⟨⟩ <;> exact nofun

theorem shapeIndex1_not_anyOther (x : Index) (y z : Oct) :
    ∀ sh ∈ shapeIndex1 x y z, sh.All fun i => ∀ x' j, i ≠ .anyOther x' j := by
  unfold shapeIndex1
  cases reg8Of y <;> cases reg8Of z
  case some.some =>
    dsimp only
    split_ifs <;> rintro _ ⟨⟩
    exact nofun
  all_goals rintro _ ⟨⟩ <;> exact nofun

theorem shapeIndex2_not_anyOther (x : Index) (y z : Oct) :
    ∀ sh ∈ shapeIndex2 x y z, sh.All fun i => ∀ x' j, i ≠ .anyOther x' j := by
  unfold shapeIndex2
  split <;> rintro _ ⟨⟩ <;> cases y <;> exact nofun

theorem shapeIndex3_not_anyOther (x : Index) (y z : Oct) :
    ∀ sh ∈ shapeIndex3 x y z, sh.All fun i => ∀ x' j, i ≠ .anyOther x' j := by
  unfold shapeIndex3
  split <;> rintro _ ⟨⟩ <;> exact nofun

/-- No row of context IX|IY is the fall-back. -/
theorem shapeIndexRow_not_anyOther {x : Index} {op : Byte} {sh : Shape} (h : shapeIndexRow x op = some sh) :
    sh.All fun i => ∀ x' j, i ≠ .anyOther x' j := by
  unfold shapeIndexRow at h
  split at h
  · exact shapeIndex0_not_anyOther _ _ _ sh h
  · exact shapeIndex1_not_anyOther _ _ _ sh h
  · exact shapeIndex2_not_anyOther _ _ _ sh h
  · exact shapeIndex3_not_anyOther _ _ _ sh h

theorem Shape.operands_map {sh : Shape} {bs rest : List Byte} {i : Instr} (g : Instr → Instr) (h : sh.operands bs = .ok (i, rest)) :
    (sh.map g).operands bs = .ok (g i, rest) := by
  unfold Shape.operands at h
  split at h <;> cases h <;> rfl

/-- The opcode byte of an instruction of context None says whether it has a row in context IX|IY. -/
theorem decodeIn_plain {bytes rest : List Byte} {j : Instr} (h : decodeIn .plain bytes = .ok (j, rest)) :
    ∃ op bs, bytes = op :: bs ∧ (shapePlain op).operands bs = .ok (j, rest) ∧
      ∀ x, j.unsubstituted = (shapeIndexRow x op).isNone := by
  cases bytes with
  | nil => cases h
  | cons op bs => exact ⟨op, bs, rfl, h, fun x => (shapePlain_unsubstituted x op).operands h⟩

theorem decodeIn_index_of_unsubstituted {bytes rest : List Byte} {j : Instr} (x : Index)
    (h : decodeIn .plain bytes = .ok (j, rest)) (hj : j.unsubstituted = true) :
    decodeIn (.index x) bytes = .ok (.anyOther x j, rest) := by
  obtain ⟨op, bs, rfl, hop, hrow⟩ := decodeIn_plain h
  have hnone : shapeIndexRow x op = none := by simpa [hj] using hrow x
  change (shapeIndex x op).operands bs = _
  rw [shapeIndex, hnone]
  exact Shape.operands_map (.anyOther x) hop

theorem decodeIn_index_ne_anyOther {bytes rest more : List Byte} {j k : Instr} {x y : Index}
    (h : decodeIn .plain bytes = .ok (j, rest)) (hj : j.unsubstituted = false) :
    decodeIn (.index x) bytes ≠ .ok (.anyOther y k, more) := by
  obtain ⟨op, bs, rfl, -, hrow⟩ := decodeIn_plain h
  obtain ⟨sh, hsome⟩ : ∃ sh, shapeIndexRow x op = some sh := Option.ne_none_iff_exists'.mp fun hn => by simp [hrow x, hn] at hj
  intro hk
  have hk : (shapeIndex x op).operands bs = .ok (.anyOther y k, more) := hk
  rw [shapeIndex, hsome] at hk
  exact (shapeIndexRow_not_anyOther hsome).operands hk y k rfl

/-- What may stand in a fall-back: a well-formed instruction of context None, no fall-back itself, and executed as itself (R115, R133). -/
theorem unsubstituted_spec {j : Instr} (h : j.unsubstituted = true) :
    j.context = .plain ∧ j.wf = true ∧ (∀ x k, j ≠ .anyOther x k) ∧ ∀ x s, exec (.anyOther x j) s = exec j s := by
  cases j
  case nop | exAfAf | djnz | jr | jrCc | ldRpNn | incRp | decRp | ldIndBcA | ldIndDeA | ldIndNnA | ldAIndBc | ldAIndDe | ldAIndNn | incR
    | decR | ldRN | rlca | rrca | rla | rra | daa | cpl | scf | ccf | halt | ldRR | addR | adcR | subR | sbcR | andR | xorR | orR | cpR
    | addN | adcN | subN | sbcN | andN | xorN | orN | cpN | retCc | ret | exx | jpCcNn | jpNn | outIndNA | inAIndN | exDeHl | di | ei
    | popRp | pushRp | callCcNn | callNn | rst => exact ⟨rfl, rfl, nofun, fun _ _ => rfl⟩
  all_goals cases h

theorem reads_encode_anyOther {x : Index} {j : Instr} (h : j.unsubstituted = true) :
    Reads (.index x) (encode j) (.anyOther x j) := by
  obtain ⟨hc, hwf, hn, -⟩ := unsubstituted_spec h
  have hj : Reads .plain (encode j) j := hc ▸ reads_encode_row hwf hn
  exact fun rest => decodeIn_index_of_unsubstituted x (hj rest) h

/-- Settles O1: an instruction that is no fall-back reads back row by row; a fall-back does because its context-None bytes do. -/
theorem decodeReadsWhatEncodeWrites : Obligations.DecodeReadsWhatEncodeWrites := by
  unfold Obligations.DecodeReadsWhatEncodeWrites
  intro i hi
  by_cases hn : ∀ x j, i ≠ .anyOther x j
  · exact reads_encode_row hi hn
  · simp only [not_forall, not_not] at hn
    obtain ⟨x, j, rfl⟩ := hn
    exact reads_encode_anyOther hi

end Sys2Proof

namespace Sys2Proof.Machine

open Sys2Proof

theorem exec_completes {i : Instr} (hi : ∀ x j, i ≠ .anyOther x j) (s : State) : ∃ t, exec i s = .next t := by
  cases i
  case anyOther x j => exact absurd rfl (hi x j)
  all_goals exact ⟨_, rfl⟩

/-- Settles O20: the opcode byte of an instruction of context None says whether a row of context IX|IY matches, and both dispatchers
give the fall-back one meaning. -/
theorem fallbackExecutesTheContextNoneInstruction : Obligations.FallbackExecutesTheContextNoneInstruction := by
  unfold Obligations.FallbackExecutesTheContextNoneInstruction
  refine ⟨fun x bytes rest j h => ?_, fun x j s hj => ?_, fun x => ⟨reads_op rfl, reads_op rfl⟩⟩
  · split_ifs with hj
    · exact decodeIn_index_of_unsubstituted x h hj
    · exact fun y k more => decodeIn_index_ne_anyOther h (Bool.eq_false_iff.mpr hj)
  · obtain ⟨-, -, hn, hexec⟩ := unsubstituted_spec hj
    obtain ⟨t, ht⟩ := exec_completes hn s
    exact ⟨t, (hexec x s).trans ht, ht⟩

/-! ### The blocked flag and the context (10_state.md R51, 30_encoding.md R119) -/

theorem stepKind_of_fetches {s : State} (h : s.fetches = true) : s.stepKind = .instruction := by
  simp only [State.fetches, Bool.and_eq_true, Bool.or_eq_true, Bool.not_eq_true'] at h
  obtain ⟨⟨hr, -⟩, hb | ⟨⟨hn, ha⟩, hh⟩⟩ := h <;> simp [State.stepKind, *]

/-- A step that fetches and answers a next state executes the instruction at the PC (60_exceptions.md R611). -/
theorem step_next_of_fetches {s t : State} {i : Instr} {rest : List Byte} (hf : s.fetches = true)
    (hd : decodeIn s.context s.fetchBytes = .ok (i, rest)) (h : step s = .next t) :
    ∃ u : State, exec i ((s.contended s.stepAccesses).entering i (3 - rest.length)) = .next u ∧
      t = { u with tacts := u.narrow u.tacts } := by
  obtain ⟨-, u, hu, rfl⟩ := step_eq_next h
  refine ⟨u, ?_, rfl⟩
  simpa [State.work, stepKind_of_fetches hf, State.instrStep, decoded_ok hd] using hu

theorem controlled_blocked_of_ei {i : Instr} (hi : coreInstr i = .ei) (s : State) : (s.controlled i).blocked = true := by
  cases i
  case ei => rfl
  case anyOther x j => obtain rfl : j = .ei := hi; rfl
  all_goals cases hi

theorem controlled_blocked (i : Instr) (s : State) : (s.controlled i).blocked = (s.blocked || decide (coreInstr i = .ei)) := by
  by_cases hi : coreInstr i = .ei
  · simp [controlled_blocked_of_ei hi, hi]
  · obtain ⟨-, -, -, -, -, hb, -⟩ := controlled_writers i s
    simp [hb.resolve_right hi, hi]

theorem controlled_blocked_boundary_of_isPrefixStep {i : Instr} (hi : i.isPrefixStep = true) (s : State) :
    (s.controlled i).blocked = s.blocked ∧ (s.controlled i).boundary = false := by
  rcases controlled_of_isPrefixStep hi s with ⟨x, hc⟩ | hc | hc <;> rw [hc]
  · exact ⟨rfl, Bool.and_false _⟩
  · exact ⟨rfl, rfl⟩
  · exact ⟨rfl, rfl⟩

/-- Data accesses write neither the flag nor the modes. -/
theorem Performs.blocked_boundary {s t : State} {xs : List Access} (h : Performs s xs t) :
    t.blocked = s.blocked ∧ t.boundary = s.boundary := by
  simp [State.boundary, h.control_fields]

theorem exec_blocked_boundary_of_isPrefixStep {i : Instr} {s t : State} (hi : i.isPrefixStep = true) (h : exec i s = .next t) :
    t.blocked = s.blocked ∧ t.boundary = false := by
  obtain ⟨hb, hm⟩ := (exec_performs h).blocked_boundary
  rw [hb, hm]
  exact controlled_blocked_boundary_of_isPrefixStep hi s

theorem exec_blocked_boundary {i : Instr} {s t : State} (hi : i.isPrefixStep = false) (h : exec i s = .next t) :
    t.blocked = (s.blocked || decide (coreInstr i = .ei)) ∧ t.boundary = s.boundary := by
  obtain ⟨hb, hm⟩ := (exec_performs h).blocked_boundary
  obtain ⟨-, -, -, -, -, -, hmode, -⟩ := controlled_writers i s
  obtain ⟨hp, hx⟩ := hmode.resolve_right (by simp [hi])
  rw [hb, hm]
  exact ⟨controlled_blocked i s, by simp [State.boundary, hp, hx]⟩

/-- Settles O12: the instruction starts with the flag clear and both modes None, and of the three writes what `State.controlled` says. -/
theorem onlyEiLeavesTheBlockedFlagSet : Obligations.OnlyEiLeavesTheBlockedFlagSet := by
  unfold Obligations.OnlyEiLeavesTheBlockedFlagSet
  intro s t i rest hf hd h
  obtain ⟨u, hu, rfl⟩ := step_next_of_fetches hf hd h
  split_ifs with hi
  · change u.blocked = s.blocked ∧ u.boundary = false
    simpa [State.entering, hi] using exec_blocked_boundary_of_isPrefixStep hi hu
  · have hi := Bool.eq_false_iff.mpr hi
    change u.blocked = decide (coreInstr i = .ei) ∧ u.boundary = true
    simpa [State.entering, hi, State.boundary] using exec_blocked_boundary hi hu

end Sys2Proof.Machine

/-! PROOFS. The family 40_load8.md: the 8-bit loads (O21 to O27), and the words of seven contexts (O3).

A word of fixed bytes reads by the shape of its opcode byte; one with register fields is what the encoder writes, and O1 reads it back.
Each effect is said once of the model's own update, a register, an index half, a byte of memory or A through an address, with
`State.spend` after it; the `exec` of every form is such an update. -/

namespace Sys2Proof.Machine

open Sys2Proof

/-! ### The encodings of the statements -/

theorem regNumber_eq (r : Reg8) : regNumber r = octVal (reg8Code r) := by cases r <;> rfl

theorem halfNumber_eq (q : Half) : halfNumber q = octVal (halfCode q) := by cases q <;> rfl

/-- Bytes with register numbers as fields are what the encoder writes, so they read back. -/
theorem reads_of_eq_encode (i : Instr) (hi : i.wf = true) {bytes : List Byte}
    (h : bytes = encode i := by simp only [regNumber_eq, halfNumber_eq]; rfl) : Reads i.context bytes i :=
  h ▸ decodeReadsWhatEncodeWrites i hi

/-- The immediate word stands low byte first (30_encoding.md R113). -/
theorem wordBytes_word (l h : Byte) : wordBytes (word h l) = [l, h] := by simp [wordBytes]

/-! ### A register or an index half takes a byte -/

section

variable (s : State) {t : State} (x : Index) (r : Reg8) (q : Half) (a : Word) (v : Byte) (n : Nat)

theorem setReg8_spend_spec (ht : t = (s.setReg8 r v).spend n) :
    t = { s with af := t.af, bc := t.bc, de := t.de, hl := t.hl, tacts := s.tacts + n } ∧ t.f = s.f ∧
    ∀ p : Reg8, t.reg8 p = if p = r then v else s.reg8 p := by
  subst ht
  exact ⟨by cases r <;> rfl, f_setReg8 s r v, fun p => reg8_setReg8 s p r v⟩

/-- H and L name the index halves here, so the pair HL is not among the registers that can change (R212). -/
theorem setReg8x_frame (ht : t = s.setReg8x x r v) :
    t = { s with af := t.af, bc := t.bc, de := t.de, ix := t.ix, iy := t.iy } := by
  subst ht
  cases r
  case h | l => cases x <;> rfl
  all_goals rfl

@[simp] theorem f_setReg8x : (s.setReg8x x r v).f = s.f := by
  cases r
  case h | l => cases x <;> rfl
  all_goals exact f_setReg8 s _ v

@[simp] theorem index_setReg8x {y : Index} (h : y ≠ x) : (s.setReg8x x r v).index y = s.index y := by
  cases r
  case h | l => exact index_setIndexHalf s x y _ v h
  all_goals cases y <;> rfl

theorem setIndexHalf_spend_frame (ht : t = (s.setIndexHalf x q v).spend n) :
    t = { s with ix := t.ix, iy := t.iy, tacts := s.tacts + n } := by
  subst ht
  cases x <;> cases q <;> rfl

/-! ### Memory, and A through an address -/

/-- WZ may be latched before the store (R210, R211); the stores at HL leave it as it is. -/
theorem latched_write8_spend_spec (w : Word) (ht : t = ({ s with wz := w }.write8 a v).spend n) :
    t = { s with mem := t.mem, wz := w, tacts := s.tacts + n } ∧ s.Stores t [(a, v)] := by
  subst ht
  exact ⟨rfl, State.stores_of_mem rfl⟩

theorem loadA_spend_spec (ht : t = (s.loadA a).spend n) :
    t = { s with af := t.af, wz := a + 1, tacts := s.tacts + n } ∧ t.f = s.f ∧ t.reg8 .a = s.read8 a := by
  subst ht
  exact ⟨rfl, f_setReg8 s .a (s.read8 a), reg8_setReg8 s .a .a (s.read8 a)⟩

theorem storeA_spend_spec (ht : t = (s.storeA a).spend n) :
    t = { s with mem := t.mem, wz := t.wz, tacts := s.tacts + n } ∧ hi t.wz = s.reg8 .a ∧ lo t.wz = lo a + 1 ∧
    s.Stores t [(a, s.reg8 .a)] := by
  subst ht
  exact ⟨rfl, hi_word _ _, lo_word _ _, State.stores_of_mem rfl⟩

/-! ### A from I and R -/

theorem loadIRFlags_spec (iff2 : Bool) (g : Flags) :
    (loadIRFlags v iff2 g).ShowsByte v ∧ (loadIRFlags v iff2 g).h = false ∧ (loadIRFlags v iff2 g).n = false ∧
    (loadIRFlags v iff2 g).pv = iff2 ∧ (loadIRFlags v iff2 g).c = g.c :=
  ⟨⟨rfl, beq_eq_decide _ _, rfl, rfl⟩, rfl, rfl, rfl, rfl⟩

theorem setAF_loadIRFlags_spend_spec (ht : t = (s.setAF (v, loadIRFlags v s.iff2 s.flags)).spend n) :
    t = { s with af := t.af, tacts := s.tacts + n } ∧ t.reg8 .a = v ∧ t.flags.ShowsByte v ∧ t.flags.h = false ∧ t.flags.n = false ∧
    t.flags.pv = s.iff2 ∧ t.flags.c = s.flags.c := by
  have hf : t.flags = loadIRFlags v s.iff2 s.flags := by rw [ht]; exact flags_setAF s _
  rw [hf]
  subst ht
  exact ⟨rfl, reg8_setAF s _ .a, loadIRFlags_spec v s.iff2 s.flags⟩

end

/-! ### The statements -/

/-- Settles O3: each word is fixed bytes, so its decoding is computed. -/
theorem wordsOfEachContextDecode : Obligations.WordsOfEachContextDecode := by
  unfold Obligations.WordsOfEachContextDecode
  and_intros <;> rfl

/-- Settles O21: both forms are a write of the destination register. -/
theorem loadRegisterFromRegisterOrImmediate : Obligations.LoadRegisterFromRegisterOrImmediate := by
  unfold Obligations.LoadRegisterFromRegisterOrImmediate
  refine ⟨fun dst src => ⟨?_, fun s => ⟨_, rfl, ?_⟩⟩, fun r n => ⟨?_, fun s => ⟨_, rfl, ?_⟩⟩⟩
  · exact reads_of_eq_encode (.ldRR dst src) rfl
  · exact setReg8_spend_spec s dst (s.reg8 src) 0 rfl
  · exact reads_of_eq_encode (.ldRN r n) rfl
  · exact setReg8_spend_spec s r n 3 rfl

/-- Settles O22: the destination is written under its substituted name; `Instr.wf` of `LD r,r'` is the hypothesis on dst and src. -/
theorem loadIndexHalves : Obligations.LoadIndexHalves := by
  unfold Obligations.LoadIndexHalves
  refine ⟨fun x dst src h => ⟨?_, fun s => ⟨_, rfl, ?_, ?_, ?_, ?_⟩⟩, fun x q n => ⟨?_, fun s => ⟨_, rfl, ?_, ?_⟩⟩⟩
  · exact reads_of_eq_encode (.ldRRHalves x dst src) h
  · exact setReg8x_frame s x dst (s.reg8x x src) rfl
  · exact f_setReg8x s x dst (s.reg8x x src)
  · exact fun y hy => index_setReg8x s x dst (s.reg8x x src) hy
  · exact fun p => reg8x_setReg8x s x p dst (s.reg8x x src)
  · exact reads_of_eq_encode (.ldXHalfN x q n) rfl
  · exact setIndexHalf_spend_frame s x q n 3 rfl
  · exact fun y k => indexHalf_setIndexHalf s x y q k n

/-- Settles O23: a write of the destination register with the byte at the old HL, or at IXY + d once WZ is latched. -/
theorem loadRegisterFromMemory : Obligations.LoadRegisterFromMemory := by
  unfold Obligations.LoadRegisterFromMemory
  refine ⟨fun r => ⟨?_, fun s => ⟨_, rfl, ?_⟩⟩, fun x r d => ⟨?_, fun s => ⟨_, rfl, ?_⟩⟩⟩
  · exact reads_of_eq_encode (.ldRIndHl r) rfl
  · exact setReg8_spend_spec s r (s.read8 s.hl) 3 rfl
  · exact reads_of_eq_encode (.ldRIdx x r d) rfl
  · exact setReg8_spend_spec (s.latchEa x d) r (s.read8 (s.ea x d)) 11 rfl

/-- Settles O24: each form is one write of memory. -/
theorem storeRegisterOrImmediate : Obligations.StoreRegisterOrImmediate := by
  unfold Obligations.StoreRegisterOrImmediate
  refine ⟨fun r => ⟨?_, fun s => ⟨_, rfl, ?_⟩⟩, fun n => ⟨reads_opN rfl, fun s => ⟨_, rfl, ?_⟩⟩,
    fun x d r => ⟨?_, fun s => ⟨_, rfl, ?_⟩⟩, fun x d n => ⟨reads_opDn rfl, fun s => ⟨_, rfl, ?_⟩⟩⟩
  · exact reads_of_eq_encode (.ldIndHlR r) rfl
  · exact latched_write8_spend_spec s s.hl (s.reg8 r) 3 s.wz rfl
  · exact latched_write8_spend_spec s s.hl n 6 s.wz rfl
  · exact reads_of_eq_encode (.ldIdxR x d r) rfl
  · exact latched_write8_spend_spec s (s.ea x d) (s.reg8 r) 11 (s.ea x d) rfl
  · exact latched_write8_spend_spec s (s.ea x d) n 11 (s.ea x d) rfl

/-- Settles O25: the three forms are one load of A through their address. -/
theorem loadAccumulatorThroughAnAddress : Obligations.LoadAccumulatorThroughAnAddress := by
  unfold Obligations.LoadAccumulatorThroughAnAddress
  refine ⟨⟨reads_op rfl, fun s => ⟨_, rfl, ?_⟩⟩, ⟨reads_op rfl, fun s => ⟨_, rfl, ?_⟩⟩, fun l h => ?_, fun nn s => ⟨_, rfl, ?_⟩⟩
  · exact loadA_spend_spec s s.bc 3 rfl
  · exact loadA_spend_spec s s.de 3 rfl
  · exact wordBytes_word l h ▸ reads_opNn rfl
  · exact loadA_spend_spec s nn 9 rfl

/-- Settles O26: the three forms are one store of A through their address. -/
theorem storeAccumulatorThroughAnAddress : Obligations.StoreAccumulatorThroughAnAddress := by
  unfold Obligations.StoreAccumulatorThroughAnAddress
  refine ⟨⟨reads_op rfl, fun s => ⟨_, rfl, ?_⟩⟩, ⟨reads_op rfl, fun s => ⟨_, rfl, ?_⟩⟩, fun l h => ?_, fun nn s => ⟨_, rfl, ?_⟩⟩
  · exact storeA_spend_spec s s.bc 3 rfl
  · exact storeA_spend_spec s s.de 3 rfl
  · exact wordBytes_word l h ▸ reads_opNn rfl
  · exact storeA_spend_spec s nn 9 rfl

/-- Settles O27: A and the flags are written from I or R; I and R are written from A and no flag is. -/
theorem loadsOfTheInterruptAndRefreshRegisters : Obligations.LoadsOfTheInterruptAndRefreshRegisters := by
  unfold Obligations.LoadsOfTheInterruptAndRefreshRegisters
  refine ⟨⟨reads_op rfl, fun s => ⟨_, rfl, ?_⟩⟩, ⟨reads_op rfl, fun s => ⟨_, rfl, ?_⟩⟩, ⟨reads_op rfl, fun _ => rfl⟩,
    ⟨reads_op rfl, fun _ => rfl⟩⟩
  · exact setAF_loadIRFlags_spend_spec s s.i 1 rfl
  · exact setAF_loadIRFlags_spend_spec s s.r 1 rfl

end Sys2Proof.Machine

/-! PROOFS. The family 41_load16_exchange.md: the 16-bit loads, the stack and the exchanges (O28 to O32).

A pair, a stack pair or an index register takes a word, and memory takes a word at an address or on the stack. The frame of each such
update is said once, as a record equation; `State.spend` and the latch of WZ after the update only carry that equation along, by
`congrArg`. What a load leaves is said once for all three kinds of register (`loaded_word`). -/

namespace Sys2Proof.Machine

open Sys2Proof

/-! ### The encodings of the statements -/

theorem opcode_pairNumber (x q : Nat) (p : Pair) (z : Oct) :
    opcode (x * 64 + q * 8 + octVal z) (2 * pairNumber p) 0 = pairOpcode x p q z := by
  cases p <;> exact congrArg (BitVec.ofNat 8) (by simp only [pairNumber]; omega)

theorem opcode_stackPairNumber (q : StackPair) (z : Oct) :
    opcode (192 + octVal z) (2 * stackPairNumber q) 0 = stackOpcode q z := by
  cases q <;> exact congrArg (BitVec.ofNat 8) (by simp only [stackPairNumber]; omega)

/-! ### A register takes a word -/

section

variable (s : State) {t : State} (a v : Word) (n : Nat)

theorem setPair_frame (p : Pair) :
    s.setPair p v = { s with
      bc := (s.setPair p v).bc, de := (s.setPair p v).de, hl := (s.setPair p v).hl, sp := (s.setPair p v).sp } := by
  cases p <;> rfl

theorem setStackPair_frame (q : StackPair) :
    s.setStackPair q v = { s with
      af := (s.setStackPair q v).af, bc := (s.setStackPair q v).bc, de := (s.setStackPair q v).de
      hl := (s.setStackPair q v).hl } := by
  cases q <;> rfl

theorem setIndex_frame (x : Index) :
    s.setIndex x v = { s with ix := (s.setIndex x v).ix, iy := (s.setIndex x v).iy } := by
  cases x <;> rfl

/-- One register of a kind, `i`, takes the word at `a`, low byte first (20_memory.md R84), and the others keep theirs. -/
theorem loaded_word {ι : Type} [DecidableEq ι] {before after : ι → Word} (i : ι)
    (h : ∀ j, after j = if j = i then s.read16 a else before j) :
    lo (after i) = s.read8 a ∧ hi (after i) = s.read8 (a + 1) ∧ ∀ j, j ≠ i → after j = before j := by
  have hw : after i = s.read16 a := (h i).trans (if_pos rfl)
  exact ⟨hw ▸ s.lo_read16 a, hw ▸ s.hi_read16 a, fun j hj => (h j).trans (if_neg hj)⟩

/-! ### Memory takes a word -/

theorem write16_frame : s.write16 a v = { s with mem := (s.write16 a v).mem } := rfl

theorem push16_frame : s.push16 v = { s with mem := (s.push16 v).mem, sp := s.sp - 2 } := by
  have hsp : (s.push16 v).sp = s.sp - 2 := by simp
  rw [← hsp]
  rfl

theorem write16_latchNext_spend_spec (ht : t = ((s.write16 a v).latchNext a).spend n) :
    t = { s with mem := t.mem, wz := a + 1, tacts := s.tacts + n } ∧ s.Stores t [(a, lo v), (a + 1, hi v)] := by
  have hmem : t.mem = (s.write16 a v).mem := by simp [ht]
  refine ⟨?_, State.stores_of_mem (hmem.trans (State.stores_write16 s a v).memory)⟩
  subst ht
  exact congrArg (fun u => (u.latchNext a).spend n) (write16_frame s a v)

theorem push16_spend_spec (ht : t = (s.push16 v).spend n) :
    t = { s with mem := t.mem, sp := s.sp - 2, tacts := s.tacts + n } ∧
    s.Stores t [(s.sp - 1, hi v), (s.sp - 2, lo v)] := by
  have hmem : t.mem = (s.push16 v).mem := by simp [ht]
  refine ⟨?_, State.stores_of_mem (hmem.trans (State.stores_push16 s v).memory)⟩
  subst ht
  exact congrArg (State.spend · n) (push16_frame s v)

/-- The word at SP is read before it is replaced, so the register and WZ take the old one (R258). -/
theorem replaceTop_setIndex_spend_spec (x : Index)
    (ht : t = ({ (s.replaceTop v).setIndex x s.top16 with wz := s.top16 }).spend n) :
    t = { s with mem := t.mem, ix := t.ix, iy := t.iy, wz := t.index x, tacts := s.tacts + n } ∧
    (∀ y : Index, t.index y = if y = x then s.read16 s.sp else s.index y) ∧
    s.Stores t [(s.sp + 1, hi v), (s.sp, lo v)] := by
  have hindex : ∀ y : Index, t.index y = if y = x then s.read16 s.sp else s.index y := by
    subst ht
    exact fun y => index_setIndex (s.replaceTop v) x y s.top16
  have hwz : t.index x = s.top16 := (hindex x).trans (if_pos rfl)
  have hmem : t.mem = (s.replaceTop v).mem := by simp [ht]
  refine ⟨?_, hindex, State.stores_of_mem (hmem.trans (State.stores_replaceTop s v).memory)⟩
  rw [hwz, hmem]
  subst ht
  exact congrArg (fun u => ({ u with wz := s.top16 } : State).spend n) (setIndex_frame (s.replaceTop v) s.top16 x)

end

/-! ### The statements -/

/-- Settles O28: each form is a write of the pair, the index register or SP. -/
theorem loadPairFromImmediateOrRegister : Obligations.LoadPairFromImmediateOrRegister := by
  unfold Obligations.LoadPairFromImmediateOrRegister
  refine ⟨fun p l h => ?_, fun p nn s => ⟨_, rfl, ?_, ?_⟩, fun x l h => ?_, fun x nn s => ⟨_, rfl, ?_, ?_⟩,
    ⟨reads_op rfl, fun _ => rfl⟩, fun x => ⟨reads_op rfl, fun _ => rfl⟩⟩
  · exact reads_of_eq_encode (.ldRpNn p (word h l)) rfl (congrArg₂ _ (opcode_pairNumber 0 0 p .o1) (wordBytes_word l h).symm)
  · exact congrArg (State.spend · 6) (setPair_frame s nn p)
  · exact fun q => pair_setPair s p q nn
  · exact wordBytes_word l h ▸ reads_opNn rfl
  · exact congrArg (State.spend · 6) (setIndex_frame s nn x)
  · exact fun y => index_setIndex s x y nn

/-- Settles O29: HL, the index register or the pair takes the word at nn, and WZ is latched. -/
theorem loadPairFromMemory : Obligations.LoadPairFromMemory := by
  unfold Obligations.LoadPairFromMemory
  refine ⟨fun l h => ?_, fun nn s => ⟨_, rfl, rfl, ?_, ?_⟩, fun x l h => ?_, fun x nn s => ⟨_, rfl, ?_, ?_⟩,
    fun p l h => ?_, fun p nn s => ⟨_, rfl, ?_, ?_⟩⟩
  · exact wordBytes_word l h ▸ reads_opNn rfl
  · exact s.lo_read16 nn
  · exact s.hi_read16 nn
  · exact wordBytes_word l h ▸ reads_opNn rfl
  · exact congrArg (fun u => (u.latchNext nn).spend 12) (setIndex_frame s (s.read16 nn) x)
  · exact loaded_word s nn x fun y => index_setIndex s x y (s.read16 nn)
  · exact reads_of_eq_encode (.ldRpIndNn p (word h l)) rfl (congrArg₂ _ (opcode_pairNumber 1 1 p .o3) (wordBytes_word l h).symm)
  · exact congrArg (fun u => (u.latchNext nn).spend 12) (setPair_frame s (s.read16 nn) p)
  · exact loaded_word s nn p fun q => pair_setPair s p q (s.read16 nn)

/-- Settles O30: the three forms are one 16-bit store at nn. -/
theorem storePairToMemory : Obligations.StorePairToMemory := by
  unfold Obligations.StorePairToMemory
  refine ⟨fun l h => ?_, fun nn s => ⟨_, rfl, ?_⟩, fun x l h => ?_, fun x nn s => ⟨_, rfl, ?_⟩,
    fun p l h => ?_, fun p nn s => ⟨_, rfl, ?_⟩⟩
  · exact wordBytes_word l h ▸ reads_opNn rfl
  · exact write16_latchNext_spend_spec s nn s.hl 12 rfl
  · exact wordBytes_word l h ▸ reads_opNn rfl
  · exact write16_latchNext_spend_spec s nn (s.index x) 12 rfl
  · exact reads_of_eq_encode (.ldIndNnRp p (word h l)) rfl (congrArg₂ _ (opcode_pairNumber 1 0 p .o3) (wordBytes_word l h).symm)
  · exact write16_latchNext_spend_spec s nn (s.pair p) 12 rfl

/-- Settles O31: PUSH is one push; POP drops the word at SP, then the pair or the index register takes it. -/
theorem pushAndPop : Obligations.PushAndPop := by
  unfold Obligations.PushAndPop
  refine ⟨fun q => ⟨?_, fun s => ⟨_, rfl, ?_⟩⟩, fun x => ⟨reads_op rfl, fun s => ⟨_, rfl, ?_⟩⟩,
    fun q => ⟨?_, fun s => ⟨_, rfl, ?_, ?_⟩⟩, fun x => ⟨reads_op rfl, fun s => ⟨_, rfl, ?_, ?_⟩⟩⟩
  · exact reads_of_eq_encode (.pushRp q) rfl (congrArg (fun b => [b]) (opcode_stackPairNumber q .o5))
  · exact push16_spend_spec s (s.stackPair q) 7 rfl
  · exact push16_spend_spec s (s.index x) 7 rfl
  · exact reads_of_eq_encode (.popRp q) rfl (congrArg (fun b => [b]) (opcode_stackPairNumber q .o1))
  · exact congrArg (State.spend · 6) (setStackPair_frame s.dropped16 s.top16 q)
  · exact loaded_word s s.sp q fun p => stackPair_setStackPair s.dropped16 q p s.top16
  · exact congrArg (State.spend · 6) (setIndex_frame s.dropped16 s.top16 x)
  · exact loaded_word s s.sp x fun y => index_setIndex s.dropped16 x y s.top16

/-- Settles O32: the register exchanges are computed; EX (SP) replaces the word at SP, then the register and WZ take the old word. -/
theorem exchanges : Obligations.Exchanges := by
  unfold Obligations.Exchanges
  refine ⟨⟨reads_op rfl, fun _ => rfl⟩, ⟨reads_op rfl, fun _ => rfl⟩, ⟨reads_op rfl, fun _ => rfl⟩,
    ⟨reads_op rfl, fun s => ⟨_, rfl, rfl, ?_, ?_, ?_⟩⟩, fun x => ⟨reads_op rfl, fun s => ⟨_, rfl, ?_⟩⟩⟩
  · exact s.lo_read16 s.sp
  · exact s.hi_read16 s.sp
  · exact State.stores_of_mem (State.stores_replaceTop s s.hl).memory
  · obtain ⟨hframe, hindex, hstores⟩ := replaceTop_setIndex_spend_spec s (s.index x) 15 x rfl
    obtain ⟨hlo, hhi, hkept⟩ := loaded_word s s.sp x hindex
    exact ⟨hframe, hlo, hhi, hkept, hstores⟩

end Sys2Proof.Machine

/-! PROOFS. The family 42_block_transfer_search.md: block transfer and block search (O33, O34).

A form is its body, moving by 1 or -1, and then `Repeat()` where the form repeats and its condition holds (R288). Each body is said once
for both directions, and the repeat once for every body; the eight instructions differ only in these two parameters. -/

namespace Sys2Proof.Machine

open Sys2Proof

/-! ### The repeat (R288) -/

section

variable (s : State)

/-- `again` is the model's test, `p` the condition as the rules write it. -/
theorem repeatIf_frame {again : Bool} {p : Prop} [Decidable p] (h : again = true ↔ p) :
    s.repeatIf again = { s with
      pc := if p then s.pc - 2 else s.pc
      wz := if p then s.pc - 2 + 1 else s.wz
      tacts := s.tacts + if p then 5 else 0 } := by
  have hwz : s.pc - 1 = s.pc - 2 + 1 := by bv_omega
  by_cases hp : p
  · simp only [State.repeatIf, h.mpr hp, hp, if_true, ← hwz]
    rfl
  · simp only [State.repeatIf, mt h.mp hp, hp, if_false]
    rfl

@[simp] theorem flags_repeatIf (b : Bool) : (s.repeatIf b).flags = s.flags := by cases b <;> rfl

@[simp] theorem reg8_repeatIf (b : Bool) (r : Reg8) : (s.repeatIf b).reg8 r = s.reg8 r := by cases b <;> cases r <;> rfl

/-- Of the 16 tacts the two fetches have spent 8 and the body spends 8; a repeat spends 5 more. -/
theorem repeat_tacts (n : Nat) (p : Prop) [Decidable p] :
    n + 8 + (if p then 5 else 0) = n + ((if p then 21 else 16) - 8) := by
  split <;> rfl

/-- With 1 for `w`: BC is not 0 after the count where it was not 1 before. -/
theorem sub_bne_zero {k : Nat} (v w : BitVec k) : (v - w != 0) = decide (v ≠ w) := by
  have h : v - w ≠ 0 ↔ v ≠ w := sub_ne_zero
  rw [← decide_eq_decide.mpr h]
  exact decide_not.symm

/-! ### The bodies (R280, R281, R284, R285): memory, the flags and A; the other fields are read off their definitions -/

variable (delta : Word)

theorem mem_blockLoad : (s.blockLoad delta).mem = s.mem.writeAll [(s.de, s.read8 s.hl)] := rfl

theorem flags_blockLoad :
    (s.blockLoad delta).flags = { s.flags with
      h := false, n := false, pv := decide (s.bc ≠ 1)
      y := (s.read8 s.hl + s.reg8 .a).getLsbD 1, x := (s.read8 s.hl + s.reg8 .a).getLsbD 3 } := by
  rw [← sub_bne_zero]; exact flags_setFlags _ _

theorem reg8_a_blockLoad : (s.blockLoad delta).reg8 .a = s.reg8 .a := reg8_setFlags _ _ .a

theorem flags_blockCompare :
    (s.blockCompare delta).flags = blockCompareFlags (s.reg8 .a) (s.read8 s.hl) (decide (s.bc ≠ 1)) s.flags := by
  rw [← sub_bne_zero]; exact flags_setFlags _ _

theorem reg8_a_blockCompare : (s.blockCompare delta).reg8 .a = s.reg8 .a := reg8_setFlags _ _ .a

end

/-- The flags of R284: those of the difference `a - t`, but Y and X from the difference less the half borrow. -/
theorem blockCompareFlags_spec {a t : Byte} {more : Bool} {g k : Flags} (hk : k = blockCompareFlags a t more g) :
    k.s = (a - t).getLsbD 7 ∧ k.z = decide (a = t) ∧ k.h = decide (a.toNat % 16 < t.toNat % 16) ∧
    k.pv = more ∧ k.n = true ∧ k.c = g.c ∧
    k.y = (a - t - BitVec.ofNat 8 k.h.toNat).getLsbD 1 ∧ k.x = (a - t - BitVec.ofNat 8 k.h.toNat).getLsbD 3 := by
  have hz : k.z = decide (a = t) := by
    rw [hk]; exact (beq_eq_decide _ _).trans (decide_eq_decide.mpr sub_eq_zero)
  have hh : k.h = decide (a.toNat % 16 < t.toNat % 16) := by
    rw [hk, ← toNat_lowDigit, ← toNat_lowDigit]; rfl
  have hn : a - t - (if k.h = true then 1 else 0) = a - t - BitVec.ofNat 8 k.h.toNat := by cases k.h <;> rfl
  have hyx : k.y = (a - t - if k.h = true then 1 else 0).getLsbD 1 ∧ k.x = (a - t - if k.h = true then 1 else 0).getLsbD 3 := by
    subst hk; exact ⟨rfl, rfl⟩
  rw [hn] at hyx
  exact ⟨hk ▸ rfl, hz, hh, hk ▸ rfl, hk ▸ rfl, hk ▸ rfl, hyx⟩

/-! ### The forms -/

/-- The forms of O33: the instruction, its direction, and whether it repeats. -/
def transferForms : List (Instr × Word × Bool) := [(.ldi, 1, false), (.ldd, -1, false), (.ldir, 1, true), (.lddr, -1, true)]

/-- The forms of O34. -/
def searchForms : List (Instr × Word × Bool) := [(.cpi, 1, false), (.cpd, -1, false), (.cpir, 1, true), (.cpdr, -1, true)]

section

variable {e : Instr × Word × Bool} (s : State)

theorem exec_transferForm (he : e ∈ transferForms) :
    exec e.1 s = .next ((s.blockLoad e.2.1).repeatIf (e.2.2 && s.bc - 1 != 0)) := by
  simp only [transferForms, List.mem_cons, List.not_mem_nil, or_false] at he
  rcases he with rfl | rfl | rfl | rfl <;> rfl

theorem exec_searchForm (he : e ∈ searchForms) :
    exec e.1 s = .next ((s.blockCompare e.2.1).repeatIf (e.2.2 && (s.bc - 1 != 0 && s.a - s.read8 s.hl != 0))) := by
  simp only [searchForms, List.mem_cons, List.not_mem_nil, or_false] at he
  rcases he with rfl | rfl | rfl | rfl <;> rfl

end

/-- R282, R283: a transfer that repeats does so while BC is not 0. -/
theorem transfer_again_iff (s : State) (rep : Bool) : (rep && s.bc - 1 != 0) = true ↔ rep = true ∧ s.bc ≠ 1 := by
  simp only [sub_bne_zero, Bool.and_eq_true, decide_eq_true_eq]

/-- R286, R287: a search that repeats does so while BC is not 0 and there is no match. -/
theorem search_again_iff (s : State) (rep : Bool) :
    (rep && (s.bc - 1 != 0 && s.a - s.read8 s.hl != 0)) = true ↔ rep = true ∧ s.bc ≠ 1 ∧ s.reg8 .a ≠ s.read8 s.hl := by
  simp only [sub_bne_zero, Bool.and_eq_true, decide_eq_true_eq, a_eq_reg8]

/-! ### The statements -/

/-- Settles O33: the body of the transfer, then the repeat, which writes PC, WZ and the tacts alone. -/
theorem blockTransfers : Obligations.BlockTransfers := by
  unfold Obligations.BlockTransfers
  refine ⟨reads_op rfl, reads_op rfl, reads_op rfl, reads_op rfl, fun e he s => ⟨_, exec_transferForm s he, ?_, ?_, ?_, ?_⟩⟩
  · rw [repeatIf_frame _ (transfer_again_iff s e.2.2), ← repeat_tacts]
    rfl
  · exact State.stores_of_mem (by simp [mem_blockLoad])
  · exact (reg8_repeatIf _ _ .a).trans (reg8_a_blockLoad s e.2.1)
  · exact (flags_repeatIf _ _).trans (flags_blockLoad s e.2.1)

/-- Settles O34: the body of the search, then the repeat, which keeps its flags. -/
theorem blockSearches : Obligations.BlockSearches := by
  unfold Obligations.BlockSearches
  refine ⟨reads_op rfl, reads_op rfl, reads_op rfl, reads_op rfl, fun e he s => ⟨_, exec_searchForm s he, ?_, ?_, ?_⟩⟩
  · rw [repeatIf_frame _ (search_again_iff s e.2.2), ← repeat_tacts]
    rfl
  · exact (reg8_repeatIf _ _ .a).trans (reg8_a_blockCompare s e.2.1)
  · exact blockCompareFlags_spec ((flags_repeatIf _ _).trans (flags_blockCompare s e.2.1))

end Sys2Proof.Machine

/-! PROOFS. The family 43_alu8.md: 8-bit arithmetic and logic (O35 to O42).

But for INC and DEC, every form writes A and F, or F alone, between its latch of WZ and its tacts; what that leaves is said once
(`exec_setAF`, `exec_setFlags`). INC and DEC write F and then the byte where the form says (`State.put`, `exec_put`). What remains of a
statement is about bytes and flags: lemmas on the model's functions `add8`, `sub8`, `logicFlags`, `inc8`, `dec8` and `daa8`. -/

namespace Sys2Proof.Machine

open Sys2Proof

/-! ### The encodings of the statements -/

theorem reads_aluInstr (o : AluOp) (f : AluForm) : Reads f.context (f.bytes o.number) (aluInstr o f) := by
  cases f with
  | reg r => exact reads_op (by cases o <;> cases r <;> rfl)
  | indHl => exact reads_op (by cases o <;> rfl)
  | imm n => exact reads_opN (f := fun n => aluInstr o (.imm n)) (by cases o <;> rfl)
  | half x q => exact reads_op (by cases o <;> cases q <;> rfl)
  | idx x d => exact reads_opN (f := fun d => aluInstr o (.idx x d)) (by cases o <;> rfl)

theorem reads_incInstr_decInstr (f : StepForm) :
    Reads f.context (f.bytes 4) (incInstr f) ∧ Reads f.context (f.bytes 5) (decInstr f) := by
  cases f with
  | reg r => exact ⟨reads_op (by cases r <;> rfl), reads_op (by cases r <;> rfl)⟩
  | half x q => exact ⟨reads_op (by cases q <;> rfl), reads_op (by cases q <;> rfl)⟩
  | indHl => exact ⟨reads_op rfl, reads_op rfl⟩
  | idx x d => exact ⟨reads_opN rfl, reads_opN rfl⟩

theorem reads_neg (y : Oct) : Reads .ed [opcode 0x44 (octVal y) 0] (.neg y) := reads_op (by cases y <;> rfl)

/-! ### A and F, or F alone, are written -/

section

variable {i : Instr} {s : State} {w : Word} {n : Nat}

/-- A form that latches nothing is the case that `w` is WZ itself. -/
theorem exec_setAF {v : Byte × Flags} (hi : exec i s = .next ((({ s with wz := w } : State).setAF v).spend n)) :
    ∃ t : State, exec i s = .next t ∧ t = { s with af := t.af, wz := w, tacts := s.tacts + n } ∧
      t.reg8 .a = v.1 ∧ t.flags = v.2 :=
  ⟨_, hi, rfl, reg8_setAF { s with wz := w } v .a, flags_setAF { s with wz := w } v⟩

theorem exec_setFlags {g : Flags} (hi : exec i s = .next ((({ s with wz := w } : State).setFlags g).spend n)) :
    ∃ t : State, exec i s = .next t ∧ t = { s with af := t.af, wz := w, tacts := s.tacts + n } ∧
      t.reg8 .a = s.reg8 .a ∧ t.flags = g :=
  ⟨_, hi, rfl, reg8_setFlags { s with wz := w } g .a, flags_setFlags { s with wz := w } g⟩

end

/-! ### Addition and subtraction (R300, R301) -/

theorem szxy_shows (g : Flags) (v : Byte) : (g.szxy v).ShowsByte v := ⟨rfl, beq_eq_decide _ _, rfl, rfl⟩

/-- Bit 7 is the sign bit. -/
theorem getLsbD_seven (v : Byte) : v.getLsbD 7 = decide (128 ≤ v.toNat) := BitVec.msb_eq_decide v

theorem toInt_byte (v : Byte) : v.toInt = if 128 ≤ v.toNat then (v.toNat : Int) - 256 else v.toNat := by
  rw [BitVec.toInt_eq_msb_cond, BitVec.msb_eq_decide]
  simp

/-- The rule's test on the signs is signed overflow: operands of one sign, and a sum of the other. -/
theorem sum_overflow_iff {a v res : Byte} {c : Bool} (h : res.toNat = (a.toNat + v.toNat + c.toNat) % 2 ^ 8) :
    (a.getLsbD 7 = v.getLsbD 7 ∧ res.getLsbD 7 ≠ a.getLsbD 7) ↔
      a.toInt + v.toInt + c.toNat < -128 ∨ 127 < a.toInt + v.toInt + c.toNat := by
  have hc := c.toNat_le
  simp only [getLsbD_seven, toInt_byte, decide_eq_decide, ne_eq]
  omega

/-- Of a difference: operands of different signs, and a result that has not the sign of the first. -/
theorem difference_overflow_iff {a v res : Byte} {c : Bool}
    (h : (res.toNat : Int) = ((a.toNat : Int) - v.toNat - c.toNat) % 2 ^ 8) :
    (a.getLsbD 7 ≠ v.getLsbD 7 ∧ res.getLsbD 7 ≠ a.getLsbD 7) ↔
      a.toInt - v.toInt - c.toNat < -128 ∨ 127 < a.toInt - v.toInt - c.toNat := by
  have hc := c.toNat_le
  simp only [getLsbD_seven, toInt_byte, decide_eq_decide, ne_eq]
  omega

theorem beq_and_bne (p q r : Bool) : (p == q && r != p) = decide (p = q ∧ r ≠ p) := by revert p q r; decide

theorem bne_and_bne (p q r : Bool) : (p != q && r != p) = decide (p ≠ q ∧ r ≠ p) := by revert p q r; decide

theorem add8_spec (a v : Byte) (c : Bool) (g : Flags) : Added a v c (add8 a v c g).1 (add8 a v c g).2 := by
  have hres : (add8 a v c g).1.toNat = (a.toNat + v.toNat + c.toNat) % 2 ^ 8 := BitVec.toNat_ofNat _ _
  have hsign : (add8 a v c g).2.pv =
      decide (a.getLsbD 7 = v.getLsbD 7 ∧ (add8 a v c g).1.getLsbD 7 ≠ a.getLsbD 7) :=
    beq_and_bne _ _ _
  exact {
    result := hres
    shows := szxy_shows g _
    half := by rw [← toNat_lowDigit, ← toNat_lowDigit]; rfl
    sign := hsign
    overflow := by rw [hsign, decide_eq_true_iff, sum_overflow_iff hres]
    plus := rfl
    carry := rfl }

theorem sub8_spec (a v : Byte) (c : Bool) (g : Flags) : Subtracted a v c (sub8 a v c g).1 (sub8 a v c g).2 := by
  have hres : ((sub8 a v c g).1.toNat : Int) = ((a.toNat : Int) - v.toNat - c.toNat) % 2 ^ 8 := by
    rw [sub8, BitVec.toNat_ofInt]
    omega
  have hsign : (sub8 a v c g).2.pv =
      decide (a.getLsbD 7 ≠ v.getLsbD 7 ∧ (sub8 a v c g).1.getLsbD 7 ≠ a.getLsbD 7) :=
    bne_and_bne _ _ _
  exact {
    result := hres
    shows := szxy_shows g _
    half := by rw [← toNat_lowDigit, ← toNat_lowDigit]; exact decide_eq_decide.mpr (by omega)
    sign := hsign
    overflow := by rw [hsign, decide_eq_true_iff, difference_overflow_iff hres]
    minus := rfl
    borrow := decide_eq_decide.mpr (by omega) }

section

variable {i : Instr} {s : State} {w : Word} {n : Nat} {a v : Byte} {c : Bool} {g : Flags}

theorem exec_added (hi : exec i s = .next ((({ s with wz := w } : State).setAF (add8 a v c g)).spend n)) :
    ∃ t : State, exec i s = .next t ∧ t = { s with af := t.af, wz := w, tacts := s.tacts + n } ∧
      Added a v c (t.reg8 .a) t.flags := by
  obtain ⟨t, ht, hframe, ha, hf⟩ := exec_setAF hi
  exact ⟨t, ht, hframe, ha ▸ hf ▸ add8_spec a v c g⟩

theorem exec_subtracted (hi : exec i s = .next ((({ s with wz := w } : State).setAF (sub8 a v c g)).spend n)) :
    ∃ t : State, exec i s = .next t ∧ t = { s with af := t.af, wz := w, tacts := s.tacts + n } ∧
      Subtracted a v c (t.reg8 .a) t.flags := by
  obtain ⟨t, ht, hframe, ha, hf⟩ := exec_setAF hi
  exact ⟨t, ht, hframe, ha ▸ hf ▸ sub8_spec a v c g⟩

end

/-! ### Logic (R302) -/

theorem logicFlags_spec (res : Byte) (h : Bool) (g : Flags) :
    (logicFlags res h g).ShowsByte res ∧ (logicFlags res h g).h = h ∧ (logicFlags res h g).pv = evenOnes res ∧
    (logicFlags res h g).n = false ∧ (logicFlags res h g).c = false :=
  ⟨szxy_shows g res, rfl, parity_eq_evenOnes res, rfl, rfl⟩

/-- The operations of O37: their function on bytes, and H. -/
def logicOps : List (AluOp × (Byte → Byte → Byte) × Bool) :=
  [(.and, fun a v => a &&& v, true), (.xor, fun a v => a ^^^ v, false), (.or, fun a v => a ||| v, false)]

theorem exec_logicOp {e : AluOp × (Byte → Byte → Byte) × Bool} (he : e ∈ logicOps) (f : AluForm) (s : State) :
    exec (aluInstr e.1 f) s = .next
      ((({ s with wz := f.wz s } : State).setAF
        (e.2.1 (s.reg8 .a) (f.operand s), logicFlags (e.2.1 (s.reg8 .a) (f.operand s)) e.2.2 s.flags)).spend f.tacts) := by
  simp only [logicOps, List.mem_cons, List.not_mem_nil, or_false] at he
  rcases he with rfl | rfl | rfl
  · exact exec_alu s .and f
  · exact exec_alu s .xor f
  · exact exec_alu s .or f

/-! ### INC and DEC (R303, R304, R314 to R319) -/

theorem lowDigit_beq (v : Byte) (k : BitVec 4) : (lowDigit v == k) = decide (v.toNat % 16 = k.toNat) := by
  rw [beq_eq_decide, ← toNat_lowDigit]
  exact decide_eq_decide.mpr BitVec.toNat_inj.symm

theorem inc8_flags_spec (v : Byte) (g : Flags) :
    (inc8 v g).2.ShowsByte (v + 1) ∧ (inc8 v g).2.h = decide (v.toNat % 16 = 0xF) ∧ (inc8 v g).2.pv = decide (v = 0x7F) ∧
    (inc8 v g).2.n = false ∧ (inc8 v g).2.c = g.c :=
  ⟨szxy_shows g _, lowDigit_beq v 0xF, beq_eq_decide _ _, rfl, rfl⟩

theorem dec8_flags_spec (v : Byte) (g : Flags) :
    (dec8 v g).2.ShowsByte (v + -1) ∧ (dec8 v g).2.h = decide (v.toNat % 16 = 0) ∧ (dec8 v g).2.pv = decide (v = 0x80) ∧
    (dec8 v g).2.n = true ∧ (dec8 v g).2.c = g.c :=
  ⟨sub_eq_add_neg v 1 ▸ szxy_shows g (v - 1), lowDigit_beq v 0, beq_eq_decide _ _, rfl, rfl⟩

/-- The byte goes where the form says; (IXY+d) latches its address first. -/
def State.put (s : State) (v : Byte) : StepForm → State
  | .reg r => s.setReg8 r v
  | .half x q => s.setIndexHalf x q v
  | .indHl => s.write8 s.hl v
  | .idx x d => (s.latchEa x d).write8 (s.ea x d) v

theorem exec_incInstr (f : StepForm) (s : State) :
    exec (incInstr f) s =
      .next (((s.setFlags (inc8 (f.operand s) s.flags).2).put (f.operand s + 1) f).spend f.tacts) := by
  cases f <;> rfl

theorem exec_decInstr (f : StepForm) (s : State) :
    exec (decInstr f) s =
      .next (((s.setFlags (dec8 (f.operand s) s.flags).2).put (f.operand s + -1) f).spend f.tacts) := by
  rw [← sub_eq_add_neg]
  cases f <;> rfl

section

variable (s : State) (v : Byte) (f : StepForm)

theorem put_frame :
    s.put v f = { s with
      af := (s.put v f).af, bc := (s.put v f).bc, de := (s.put v f).de, hl := (s.put v f).hl, ix := (s.put v f).ix
      iy := (s.put v f).iy, mem := (s.put v f).mem, wz := f.wz s } := by
  cases f with
  | reg r => cases r <;> rfl
  | half x q => cases x <;> cases q <;> rfl
  | indHl | idx => rfl

theorem reg8_put (q : Reg8) : (s.put v f).reg8 q = if f.register = some q then v else s.reg8 q := by
  cases f with
  | reg r => simp [State.put, StepForm.register, eq_comm]
  | half x p => cases x <;> cases p <;> cases q <;> rfl
  | indHl | idx => cases q <;> rfl

theorem indexHalf_put (x : Index) (q : Half) :
    (s.put v f).indexHalf x q = if f.indexHalf = some (x, q) then v else s.indexHalf x q := by
  cases f with
  | reg r => cases r <;> cases x <;> rfl
  | half y p => simp [State.put, StepForm.indexHalf, eq_comm]
  | indHl | idx => cases x <;> rfl

theorem stores_put : s.Stores (s.put v f) ((f.address s).toList.map fun a => (a, v)) := by
  cases f with
  | reg r => exact State.stores_nil.mpr (by cases r <;> rfl)
  | half x q => exact State.stores_nil.mpr (by cases x <;> cases q <;> rfl)
  | indHl | idx => exact State.stores_of_mem rfl

theorem flags_put : (s.put v f).flags = s.flags := by
  cases f with
  | reg r => exact flags_setReg8 s r v
  | half x q => cases x <;> cases q <;> rfl
  | indHl | idx => rfl

theorem wz_address_setFlags (g : Flags) : f.wz (s.setFlags g) = f.wz s ∧ f.address (s.setFlags g) = f.address s := by
  cases f <;> exact ⟨rfl, rfl⟩

end

/-- What INC and DEC leave, but for which flags they are. -/
theorem exec_put {i : Instr} {s : State} {v : Byte} {f : StepForm} {g : Flags} {n : Nat}
    (hi : exec i s = .next (((s.setFlags g).put v f).spend n)) :
    ∃ t : State, exec i s = .next t ∧
      t = { s with
            af := t.af, bc := t.bc, de := t.de, hl := t.hl, ix := t.ix, iy := t.iy, mem := t.mem
            wz := f.wz s, tacts := s.tacts + n } ∧
      (∀ q : Reg8, t.reg8 q = if f.register = some q then v else s.reg8 q) ∧
      (∀ (x : Index) (q : Half), t.indexHalf x q = if f.indexHalf = some (x, q) then v else s.indexHalf x q) ∧
      s.Stores t ((f.address s).toList.map fun a => (a, v)) ∧ t.flags = g := by
  obtain ⟨hwz, haddress⟩ := wz_address_setFlags s f g
  refine ⟨_, hi, ?_, fun q => ?_, fun x q => ?_, ?_, ?_⟩
  · rw [← hwz]
    exact congrArg (State.spend · n) (put_frame (s.setFlags g) v f)
  · rw [← reg8_setFlags s g q]
    exact reg8_put (s.setFlags g) v f q
  · exact indexHalf_put (s.setFlags g) v f x q
  · rw [← haddress]
    exact State.stores_of_mem (stores_put (s.setFlags g) v f).memory
  · exact (flags_put (s.setFlags g) v f).trans (flags_setFlags s g)

/-! ### DAA (R320) -/

theorem toNat_correction (k : Byte) (p : Prop) [Decidable p] :
    ((if p then k else 0 : Byte).toNat : Int) = if p then (k.toNat : Int) else 0 := by
  split <;> rfl

theorem toNat_add_corrections (a low high : Byte) :
    ((a + (low + high)).toNat : Int) = ((a.toNat : Int) + low.toNat + high.toNat) % 2 ^ 8 := by
  simp only [BitVec.toNat_add]
  omega

theorem toNat_sub_corrections (a low high : Byte) :
    ((a - (low + high)).toNat : Int) = ((a.toNat : Int) - low.toNat - high.toNat) % 2 ^ 8 := by
  simp only [BitVec.toNat_sub, BitVec.toNat_add]
  omega

/-- Corrected up or down as N says, by 0x06 for the low digit and 0x60 for the high one. -/
theorem daa8_result (a : Byte) (g : Flags) :
    ((daa8 a g).1.toNat : Int) =
      (if g.n = true then
        (a.toNat : Int) - (if g.h = true ∨ a.toNat % 16 > 9 then 0x06 else 0)
          - (if g.c = true ∨ a.toNat > 0x99 then 0x60 else 0)
      else
        (a.toNat : Int) + (if g.h = true ∨ a.toNat % 16 > 9 then 0x06 else 0)
          + (if g.c = true ∨ a.toNat > 0x99 then 0x60 else 0)) % 2 ^ 8 := by
  simp only [daa8, toNat_lowDigit, Bool.or_eq_true, decide_eq_true_eq]
  split
  · rw [toNat_sub_corrections, toNat_correction, toNat_correction]
    rfl
  · rw [toNat_add_corrections, toNat_correction, toNat_correction]
    rfl

theorem daa8_half (a : Byte) (g : Flags) :
    (daa8 a g).2.h = if g.n = true then decide (g.h = true ∧ a.toNat % 16 < 6) else decide (a.toNat % 16 > 9) := by
  simp only [daa8, toNat_lowDigit, Bool.decide_and, Bool.decide_eq_true]

theorem daa8_carry (a : Byte) (g : Flags) : (daa8 a g).2.c = decide (g.c = true ∨ a.toNat > 0x99) := by
  simp only [daa8, Bool.decide_or, Bool.decide_eq_true]

/-- DAA as arithmetic: `sum` is what ADD leaves of two numbers of two decimal digits, `h` and `c` its half carry and its carry. -/
theorem decimal_sum {a n sum res : Nat} {h c hundred : Bool}
    (ha : a / 16 ≤ 9) (ha' : a % 16 ≤ 9) (hn : n / 16 ≤ 9) (hn' : n % 16 ≤ 9) (hsum : sum = (a + n) % 2 ^ 8)
    (hh : h = decide (a % 16 + n % 16 > 0xF)) (hc : c = decide (a + n > 0xFF))
    (hres : (res : Int) = ((sum : Int) + (if h = true ∨ sum % 16 > 9 then 0x06 else 0)
      + (if c = true ∨ sum > 0x99 then 0x60 else 0)) % 2 ^ 8)
    (hhundred : hundred = decide (c = true ∨ sum > 0x99)) :
    res / 16 ≤ 9 ∧ res % 16 ≤ 9 ∧
    res / 16 * 10 + res % 16 + hundred.toNat * 100 = (a / 16 * 10 + a % 16) + (n / 16 * 10 + n % 16) := by
  subst hh hc hhundred
  simp only [decide_eq_true_eq] at hres ⊢
  rw [Bool.toNat, Bool.cond_decide]
  split_ifs at hres ⊢ <;> omega

/-! ### The statements -/

/-- Settles O35: A and F take what `add8` returns. -/
theorem addAndAddWithCarry : Obligations.AddAndAddWithCarry := by
  unfold Obligations.AddAndAddWithCarry
  refine fun f => ⟨reads_aluInstr .add f, reads_aluInstr .adc f, fun s => ⟨?_, ?_⟩⟩
  · exact exec_added (exec_alu s .add f)
  · exact exec_added (exec_alu s .adc f)

/-- Settles O36: A and F take what `sub8` returns; NEG is its case of a first operand 0. -/
theorem subtractSubtractWithBorrowAndNegate : Obligations.SubtractSubtractWithBorrowAndNegate := by
  unfold Obligations.SubtractSubtractWithBorrowAndNegate
  refine ⟨fun f => ⟨reads_aluInstr .sub f, reads_aluInstr .sbc f, fun s => ⟨?_, ?_⟩⟩, fun y => ⟨reads_neg y, fun s => ?_⟩⟩
  · exact exec_subtracted (exec_alu s .sub f)
  · exact exec_subtracted (exec_alu s .sbc f)
  · exact exec_subtracted (w := s.wz) (n := 0) rfl

/-- Settles O37: A takes the result, and F the flags of R302 from it. -/
theorem logicalOperations : Obligations.LogicalOperations := by
  unfold Obligations.LogicalOperations
  refine fun e he f => ⟨reads_aluInstr e.1 f, fun s => ?_⟩
  obtain ⟨t, ht, hframe, ha, hf⟩ := exec_setAF (exec_logicOp he f s)
  refine ⟨t, ht, hframe, ha, ?_⟩
  rw [ha, hf]
  exact logicFlags_spec _ _ _

/-- Settles O38: the result discarded is that of `sub8`, and its Y and X are the two flags that CP takes from the operand instead. -/
theorem compareKeepsTheAccumulator : Obligations.CompareKeepsTheAccumulator := by
  unfold Obligations.CompareKeepsTheAccumulator
  refine fun f => ⟨reads_aluInstr .cp f, fun s => ?_⟩
  obtain ⟨t, ht, hframe, ha, hf⟩ := exec_setFlags (exec_alu s .cp f)
  refine ⟨t, ht, hframe, ha, ?_⟩
  rw [hf]
  exact ⟨rfl, rfl, (sub8 s.a (f.operand s) false s.flags).1, sub8_spec s.a (f.operand s) false s.flags⟩

/-- Settles O39: the flags are those of `inc8` or `dec8`, and the byte goes where the form says. -/
theorem incrementAndDecrementByte : Obligations.IncrementAndDecrementByte := by
  unfold Obligations.IncrementAndDecrementByte
  intro f
  obtain ⟨hinc, hdec⟩ := reads_incInstr_decInstr f
  refine ⟨hinc, hdec, fun e he s => ?_⟩
  simp only [List.mem_cons, List.not_mem_nil, or_false] at he
  rcases he with rfl | rfl
  · obtain ⟨t, ht, hframe, hreg, hhalf, hstores, hf⟩ := exec_put (exec_incInstr f s)
    exact ⟨t, ht, hframe, hreg, hhalf, hstores, hf ▸ inc8_flags_spec (f.operand s) s.flags⟩
  · obtain ⟨t, ht, hframe, hreg, hhalf, hstores, hf⟩ := exec_put (exec_decInstr f s)
    exact ⟨t, ht, hframe, hreg, hhalf, hstores, hf ▸ dec8_flags_spec (f.operand s) s.flags⟩

/-- Settles O40: A and F take what `daa8` returns. -/
theorem decimalAdjust : Obligations.DecimalAdjust := by
  unfold Obligations.DecimalAdjust
  refine ⟨reads_op rfl, fun s => ?_⟩
  obtain ⟨t, ht, hframe, ha, hf⟩ := exec_setAF (i := .daa) (s := s) (w := s.wz) (n := 0) (v := daa8 (s.reg8 .a) s.flags) rfl
  refine ⟨t, ht, hframe, ?_⟩
  rw [ha, hf]
  exact ⟨daa8_result _ _, szxy_shows s.flags _, daa8_half _ _, parity_eq_evenOnes _, rfl, daa8_carry _ _⟩

/-- Settles O41: what O35 says of the sum and its flags and O40 of the adjustment, put together as arithmetic. -/
theorem decimalAdjustAfterAddIsDecimalAddition : Obligations.DecimalAdjustAfterAddIsDecimalAddition := by
  unfold Obligations.DecimalAdjustAfterAddIsDecimalAddition
  intro s t u n ha ha' hn hn' hadd hdaa
  obtain ⟨-, -, hforms⟩ := addAndAddWithCarry (.imm n)
  obtain ⟨⟨t', ht, -, hsum⟩, -⟩ := hforms s
  obtain rfl : t' = t := Host.Outcome.next.inj (ht.symm.trans hadd)
  obtain ⟨u', hu, -, hres, -, -, -, -, hcarry⟩ := decimalAdjust.2 t'
  obtain rfl : u' = u := Host.Outcome.next.inj (hu.symm.trans hdaa)
  simp only [hsum.plus, Bool.false_eq_true, if_false] at hres
  exact decimal_sum ha ha' hn hn' hsum.result hsum.half hsum.carry hres hcarry

/-- Settles O42: CPL writes A and F, SCF and CCF write F alone. -/
theorem accumulatorAndCarryFlagOperations : Obligations.AccumulatorAndCarryFlagOperations := by
  unfold Obligations.AccumulatorAndCarryFlagOperations
  refine ⟨⟨reads_op rfl, fun s => ?_⟩, ⟨reads_op rfl, fun s => ?_⟩, ⟨reads_op rfl, fun s => ?_⟩⟩
  · have hnot : ~~~s.reg8 .a = s.reg8 .a ^^^ 0xFF := BitVec.allOnes_xor.symm.trans (BitVec.xor_comm _ _)
    obtain ⟨t, ht, hframe, ha, hf⟩ := exec_setAF (i := .cpl) (s := s) (w := s.wz) (n := 0) rfl
    exact ⟨t, ht, hframe, ha.trans hnot, by rw [ha, hf]⟩
  · exact exec_setFlags (w := s.wz) (n := 0) rfl
  · exact exec_setFlags (w := s.wz) (n := 0) rfl

end Sys2Proof.Machine

/-! PROOFS. The family 44_alu16.md: 16-bit arithmetic (O43 to O45).

The sums and the difference write F, then HL or an index register, and latch WZ; what that leaves is said once for each of the two
destinations (`exec_setFlags_hl`, `exec_setFlags_setIndex`). INC and DEC write their register alone (`exec_setPair`, `exec_setIndex`).
What remains of a statement is about words and flags: `add16_spec`, `adc16_spec` and `sbc16_spec` on the model's functions. -/

namespace Sys2Proof.Machine

open Sys2Proof

/-! ### The encodings of the statements -/

theorem reads_pairOpcode {i : Instr} (x q : Nat) (p : Pair) (z : Oct) (hi : i.wf = true) (h : encode i = [pairOpcode x p q z]) :
    Reads i.context [opcode (x * 64 + q * 8 + octVal z) (2 * pairNumber p) 0] i := by
  rw [opcode_pairNumber, ← h]
  exact decodeReadsWhatEncodeWrites i hi

/-! ### The registers take a word -/

/-- Code 10 names the index register itself (R351). -/
theorem pairX_eq (s : State) (x : Index) (p : Pair) : s.pairX x p = if p = .hl then s.index x else s.pair p := by
  cases p <;> rfl

section

variable {i : Instr} {s : State} {g : Flags} {v w : Word} {n : Nat} {p : Pair} {x : Index}

theorem exec_setFlags_hl (hi : exec i s = .next (({ s.setFlags g with hl := v, wz := w } : State).spend n)) :
    ∃ t : State, exec i s = .next t ∧ t = { s with af := t.af, hl := t.hl, wz := w, tacts := s.tacts + n } ∧
      t.reg8 .a = s.reg8 .a ∧ t.hl = v ∧ t.flags = g :=
  ⟨_, hi, rfl, reg8_setFlags s g .a, rfl, flags_setFlags s g⟩

theorem exec_setFlags_setIndex
    (hi : exec i s = .next (({ (s.setFlags g).setIndex x v with wz := w } : State).spend n)) :
    ∃ t : State, exec i s = .next t ∧ t = { s with af := t.af, ix := t.ix, iy := t.iy, wz := w, tacts := s.tacts + n } ∧
      t.reg8 .a = s.reg8 .a ∧ (∀ y : Index, t.index y = if y = x then v else s.index y) ∧ t.flags = g := by
  refine ⟨_, hi, ?_, ?_, fun y => index_setIndex (s.setFlags g) x y v, ?_⟩
  · cases x <;> rfl
  · cases x <;> exact reg8_setFlags s g .a
  · cases x <;> exact flags_setFlags s g

theorem exec_setPair (hi : exec i s = .next ((s.setPair p v).spend n)) :
    ∃ t : State, exec i s = .next t ∧
      t = { s with bc := t.bc, de := t.de, hl := t.hl, sp := t.sp, tacts := s.tacts + n } ∧
      ∀ q : Pair, t.pair q = if q = p then v else s.pair q :=
  ⟨_, hi, congrArg (State.spend · n) (setPair_frame s v p), fun q => pair_setPair s p q v⟩

theorem exec_setIndex (hi : exec i s = .next ((s.setIndex x v).spend n)) :
    ∃ t : State, exec i s = .next t ∧ t = { s with ix := t.ix, iy := t.iy, tacts := s.tacts + n } ∧
      ∀ y : Index, t.index y = if y = x then v else s.index y :=
  ⟨_, hi, congrArg (State.spend · n) (setIndex_frame s v x), fun y => index_setIndex s x y v⟩

end

/-! ### Addition and subtraction of words (R350, R352, R353) -/

theorem low12_eq (w : Word) : low12 w = w.toNat % 4096 := BitVec.extractLsb'_toNat ..

theorem add16_spec (a v : Word) (g : Flags) :
    (add16 a v g).1.toNat = (a.toNat + v.toNat) % 2 ^ 16 ∧
    (add16 a v g).2 = { g with
      h := decide (a.toNat % 4096 + v.toNat % 4096 > 0xFFF)
      c := decide (a.toNat + v.toNat > 0xFFFF)
      n := false, y := (add16 a v g).1.getLsbD 13, x := (add16 a v g).1.getLsbD 11 } := by
  refine ⟨BitVec.toNat_ofNat _ _, ?_⟩
  rw [← low12_eq, ← low12_eq]
  rfl

theorem adc16_spec (a v : Word) (c : Bool) :
    (adc16 a v c).1.toNat = (a.toNat + v.toNat + c.toNat) % 2 ^ 16 ∧
    (adc16 a v c).2.s = (adc16 a v c).1.getLsbD 15 ∧ (adc16 a v c).2.z = decide ((adc16 a v c).1 = 0) ∧
    (adc16 a v c).2.y = (adc16 a v c).1.getLsbD 13 ∧ (adc16 a v c).2.x = (adc16 a v c).1.getLsbD 11 ∧
    (adc16 a v c).2.h = decide (a.toNat % 4096 + v.toNat % 4096 + c.toNat > 0xFFF) ∧
    (adc16 a v c).2.pv = decide (a.getLsbD 15 = v.getLsbD 15 ∧ (adc16 a v c).1.getLsbD 15 ≠ a.getLsbD 15) ∧
    (adc16 a v c).2.n = false ∧ (adc16 a v c).2.c = decide (a.toNat + v.toNat + c.toNat > 0xFFFF) := by
  rw [← low12_eq, ← low12_eq]
  exact ⟨BitVec.toNat_ofNat _ _, rfl, beq_eq_decide _ _, rfl, rfl, rfl, beq_and_bne _ _ _, rfl, rfl⟩

/-- The model takes the difference as an integer; a borrow is a negative one. -/
theorem sbc16_spec (a v : Word) (c : Bool) :
    ((sbc16 a v c).1.toNat : Int) = ((a.toNat : Int) - v.toNat - c.toNat) % 2 ^ 16 ∧
    (sbc16 a v c).2.s = (sbc16 a v c).1.getLsbD 15 ∧ (sbc16 a v c).2.z = decide ((sbc16 a v c).1 = 0) ∧
    (sbc16 a v c).2.y = (sbc16 a v c).1.getLsbD 13 ∧ (sbc16 a v c).2.x = (sbc16 a v c).1.getLsbD 11 ∧
    (sbc16 a v c).2.h = decide (a.toNat % 4096 < v.toNat % 4096 + c.toNat) ∧
    (sbc16 a v c).2.pv = decide (a.getLsbD 15 ≠ v.getLsbD 15 ∧ (sbc16 a v c).1.getLsbD 15 ≠ a.getLsbD 15) ∧
    (sbc16 a v c).2.n = true ∧ (sbc16 a v c).2.c = decide (a.toNat < v.toNat + c.toNat) := by
  have hres : ((sbc16 a v c).1.toNat : Int) = ((a.toNat : Int) - v.toNat - c.toNat) % 2 ^ 16 := by
    rw [sbc16, BitVec.toNat_ofInt]
    omega
  have hborrow : ∀ k m : Nat, decide ((k : Int) - m - c.toNat < 0) = decide (k < m + c.toNat) :=
    fun k m => decide_eq_decide.mpr (by omega)
  rw [← low12_eq, ← low12_eq]
  exact ⟨hres, rfl, beq_eq_decide _ _, rfl, rfl, hborrow _ _, bne_and_bne _ _ _, rfl, hborrow _ _⟩

/-! ### The statements -/

/-- Settles O43: F and HL, or F and the index register, take what `add16` returns. -/
theorem addPairs : Obligations.AddPairs := by
  unfold Obligations.AddPairs
  refine ⟨fun p => ⟨reads_pairOpcode 0 1 p .o1 (i := .addHlRp p) rfl rfl, fun s => ?_⟩,
    fun x p => ⟨reads_pairOpcode 0 1 p .o1 (i := .addXRp x p) rfl rfl, fun s => ?_⟩⟩
  · obtain ⟨t, ht, hframe, ha, hhl, hf⟩ := exec_setFlags_hl (i := .addHlRp p) (s := s) rfl
    refine ⟨t, ht, hframe, ha, ?_⟩
    rw [hhl, hf]
    exact add16_spec s.hl (s.pair p) s.flags
  · obtain ⟨t, ht, hframe, ha, hindex, hf⟩ := exec_setFlags_setIndex (i := .addXRp x p) (s := s) rfl
    have hx : t.index x = (add16 (s.index x) (s.pairX x p) s.flags).1 := (hindex x).trans (if_pos rfl)
    obtain ⟨hsum, hflags⟩ := add16_spec (s.index x) (s.pairX x p) s.flags
    rw [← hx, pairX_eq] at hsum
    rw [← hx, ← hf, pairX_eq] at hflags
    exact ⟨t, ht, hframe, ha, hsum, fun y hy => (hindex y).trans (if_neg hy), hflags⟩

/-- Settles O44: HL and F take what `adc16` or `sbc16` returns. -/
theorem addAndSubtractPairsWithCarry : Obligations.AddAndSubtractPairsWithCarry := by
  unfold Obligations.AddAndSubtractPairsWithCarry
  refine ⟨fun p => ⟨reads_pairOpcode 1 1 p .o2 (i := .adcHlRp p) rfl rfl, fun s => ?_⟩,
    fun p => ⟨reads_pairOpcode 1 0 p .o2 (i := .sbcHlRp p) rfl rfl, fun s => ?_⟩⟩
  · obtain ⟨t, ht, hframe, ha, hhl, hf⟩ := exec_setFlags_hl (i := .adcHlRp p) (s := s) rfl
    refine ⟨t, ht, hframe, ha, ?_⟩
    rw [hhl, hf]
    exact adc16_spec s.hl (s.pair p) s.flags.c
  · obtain ⟨t, ht, hframe, ha, hhl, hf⟩ := exec_setFlags_hl (i := .sbcHlRp p) (s := s) rfl
    refine ⟨t, ht, hframe, ha, ?_⟩
    rw [hhl, hf]
    exact sbc16_spec s.hl (s.pair p) s.flags.c

/-- Settles O45: each form is a write of the pair or the index register. -/
theorem incrementAndDecrementPairs : Obligations.IncrementAndDecrementPairs := by
  unfold Obligations.IncrementAndDecrementPairs
  refine ⟨fun p => ⟨?_, ?_, fun s => ⟨?_, ?_⟩⟩, fun x => ⟨reads_op rfl, reads_op rfl, fun s => ⟨?_, ?_⟩⟩⟩
  · exact reads_pairOpcode 0 0 p .o3 (i := .incRp p) rfl rfl
  · exact reads_pairOpcode 0 1 p .o3 (i := .decRp p) rfl rfl
  · exact exec_setPair rfl
  · exact exec_setPair rfl
  · exact exec_setIndex rfl
  · exact exec_setIndex rfl

end Sys2Proof.Machine

/-! PROOFS. The family 45_rotate_shift.md: rotates and shifts (O46 to O48).

Each of the eight operations is the model's function `RotOp.fn`, whose result and carry `RotOp.fn_spec` gives. The accumulator rotates
write A and F (`exec_setAF`); the CB forms write F and then the byte where the form says (`State.putCb`, `exec_putCb`), and what that
leaves does not depend on the operation. RLD and RRD differ in the digits alone (`exec_rotateDigits`). -/

namespace Sys2Proof.Machine

open Sys2Proof

/-! ### The encodings of the statements -/

theorem reads_rotInstr (o : RotOp) (f : CbForm) : Reads f.context (f.bytes 0x00 o.number) (rotInstr o f) := by
  cases f with
  | reg r => exact reads_op (by cases o <;> cases r <;> rfl)
  | indHl => exact reads_op (by cases o <;> rfl)
  | idx x d => exact reads_indexCb (by cases o <;> rfl)
  | copy x d r => exact reads_indexCb (by cases o <;> cases r <;> rfl)

/-! ### The accumulator rotates (R370 to R373) -/

/-- The operation on A that each of the four is. -/
def accRotates : List (Instr × RotOp) := [(.rlca, .rlc), (.rrca, .rrc), (.rla, .rl), (.rra, .rr)]

theorem exec_accRotate {e : Instr × RotOp} (he : e ∈ accRotates) (s : State) : exec e.1 s = .next (s.accRotate e.2.fn) := by
  simp only [accRotates, List.mem_cons, List.not_mem_nil, or_false] at he
  rcases he with rfl | rfl | rfl | rfl <;> rfl

/-! ### The byte goes where the form of a CB operation says (R374) -/

/-- The byte goes to memory, to the register of the form, or to both; (IXY+d) latches its address first. -/
def State.putCb (s : State) (v : Byte) : CbForm → State
  | .reg r => s.setReg8 r v
  | .indHl => s.write8 s.hl v
  | .idx x d => (s.latchEa x d).write8 (s.ea x d) v
  | .copy x d r => ((s.latchEa x d).write8 (s.ea x d) v).setReg8 r v

section

variable (s : State) (v : Byte) (f : CbForm)

theorem putCb_frame :
    s.putCb v f = { s with
      af := (s.putCb v f).af, bc := (s.putCb v f).bc, de := (s.putCb v f).de, hl := (s.putCb v f).hl
      mem := (s.putCb v f).mem, wz := f.wz s } := by
  cases f with
  | reg r | copy x d r => cases r <;> rfl
  | indHl | idx => rfl

theorem reg8_putCb (q : Reg8) : (s.putCb v f).reg8 q = if f.register = some q then v else s.reg8 q := by
  cases f with
  | reg r => simp [State.putCb, CbForm.register, eq_comm]
  | indHl | idx => cases q <;> rfl
  | copy x d r =>
    have hstored : ((s.latchEa x d).write8 (s.ea x d) v).reg8 q = s.reg8 q := by cases q <;> rfl
    simp [State.putCb, CbForm.register, hstored, eq_comm]

theorem stores_putCb : s.Stores (s.putCb v f) ((f.address s).toList.map fun a => (a, v)) := by
  cases f with
  | reg r => exact State.stores_nil.mpr (by cases r <;> rfl)
  | indHl | idx => exact State.stores_of_mem rfl
  | copy x d r => exact State.stores_of_mem (by cases r <;> rfl)

theorem f_putCb : (s.putCb v f).f = s.f := by
  cases f with
  | reg r => exact f_setReg8 s r v
  | indHl | idx => rfl
  | copy x d r => exact f_setReg8 ((s.latchEa x d).write8 (s.ea x d) v) r v

theorem CbForm.wz_address_setFlags (g : Flags) : f.wz (s.setFlags g) = f.wz s ∧ f.address (s.setFlags g) = f.address s := by
  cases f <;> exact ⟨rfl, rfl⟩

end

/-- What a CB rotate or shift leaves, but for which byte and which flags they are. -/
theorem exec_putCb {i : Instr} {s : State} {v : Byte} {f : CbForm} {g : Flags} {n : Nat}
    (hi : exec i s = .next (((s.setFlags g).putCb v f).spend n)) :
    ∃ t : State, exec i s = .next t ∧
      t = { s with
            af := t.af, bc := t.bc, de := t.de, hl := t.hl, mem := t.mem, wz := f.wz s, tacts := s.tacts + n } ∧
      (∀ q : Reg8, t.reg8 q = if f.register = some q then v else s.reg8 q) ∧
      s.Stores t ((f.address s).toList.map fun a => (a, v)) ∧ t.flags = g := by
  obtain ⟨hwz, haddress⟩ := CbForm.wz_address_setFlags s f g
  refine ⟨_, hi, ?_, fun q => ?_, ?_, ?_⟩
  · rw [← hwz]
    exact congrArg (State.spend · n) (putCb_frame (s.setFlags g) v f)
  · rw [← reg8_setFlags s g q]
    exact reg8_putCb (s.setFlags g) v f q
  · rw [← haddress]
    exact State.stores_of_mem (stores_putCb (s.setFlags g) v f).memory
  · exact (congrArg unpackFlags (f_putCb (s.setFlags g) v f)).trans (flags_setFlags s g)

theorem exec_rotInstr (o : RotOp) (f : CbForm) (s : State) :
    exec (rotInstr o f) s = .next
      (((s.setFlags (rotFlags (o.fn (f.operand s) s.flags.c) s.flags)).putCb (o.fn (f.operand s) s.flags.c).1 f).spend
        f.tacts) := by
  cases o <;> cases f <;> rfl

theorem rotFlags_spec (v : Byte × Bool) (g : Flags) :
    (rotFlags v g).ShowsByte v.1 ∧ (rotFlags v g).h = false ∧ (rotFlags v g).pv = evenOnes v.1 ∧ (rotFlags v g).n = false ∧
    (rotFlags v g).c = v.2 :=
  ⟨szxy_shows g v.1, rfl, parity_eq_evenOnes v.1, rfl, rfl⟩

/-! ### The decimal digit rotates (R383, R384) -/

theorem toNat_digits (h l : BitVec 4) : (h ++ l : Byte).toNat = h.toNat * 16 + l.toNat := by
  rw [BitVec.toNat_append, ← Nat.shiftLeft_add_eq_or_of_lt l.isLt, Nat.shiftLeft_eq]

/-- What RLD and RRD leave, but for which two bytes they are. -/
theorem exec_rotateDigits {i : Instr} {s : State} {m a : Byte} (hi : exec i s = .next (s.rotateDigits m a)) :
    ∃ t : State, exec i s = .next t ∧
      t = { s with af := t.af, mem := t.mem, wz := s.hl + 1, tacts := s.tacts + (18 - 8) } ∧
      s.Stores t [(s.hl, m)] ∧ t.reg8 .a = a ∧
      t.flags.ShowsByte (t.reg8 .a) ∧ t.flags.h = false ∧ t.flags.pv = evenOnes (t.reg8 .a) ∧ t.flags.n = false ∧
      t.flags.c = s.flags.c := by
  have ha : (s.rotateDigits m a).reg8 .a = a := reg8_setAF (s.write8 s.hl m) _ .a
  have hf : (s.rotateDigits m a).flags = digitFlags a s.flags := flags_setAF (s.write8 s.hl m) _
  refine ⟨_, hi, rfl, State.stores_of_mem rfl, ha, ?_⟩
  rw [ha, hf]
  exact ⟨szxy_shows s.flags a, rfl, parity_eq_evenOnes a, rfl, rfl⟩

/-! ### The statements -/

/-- Settles O46: A takes the result of the operation, and F the flags of R370 to R373 from it. -/
theorem accumulatorRotates : Obligations.AccumulatorRotates := by
  unfold Obligations.AccumulatorRotates
  refine ⟨reads_op rfl, reads_op rfl, reads_op rfl, reads_op rfl, fun e he s => ?_⟩
  obtain ⟨hres, hcarry⟩ := e.2.fn_spec (s.reg8 .a) s.flags.c
  obtain ⟨t, ht, hframe, ha, hf⟩ := exec_setAF (w := s.wz) (n := 0) (exec_accRotate he s)
  refine ⟨t, ht, hframe, ha ▸ hres, ?_⟩
  rw [hf, ha, ← hcarry]
  rfl

/-- Settles O47: the byte that the operation returns goes where the form says, and F takes the flags of R374 from it. -/
theorem rotatesAndShifts : Obligations.RotatesAndShifts := by
  unfold Obligations.RotatesAndShifts
  refine fun o f => ⟨reads_rotInstr o f, fun s => ?_⟩
  obtain ⟨hres, hcarry⟩ := o.fn_spec (f.operand s) s.flags.c
  obtain ⟨t, ht, hframe, hreg, hstores, hf⟩ := exec_putCb (exec_rotInstr o f s)
  refine ⟨t, _, ht, hframe, hres, hreg, hstores, ?_⟩
  rw [hf, ← hcarry]
  exact rotFlags_spec _ _

/-- Settles O48: each of the two bytes is a digit beside a digit, and its number follows from theirs. -/
theorem decimalDigitRotates : Obligations.DecimalDigitRotates := by
  unfold Obligations.DecimalDigitRotates
  refine ⟨⟨reads_op rfl, fun s => ?_⟩, ⟨reads_op rfl, fun s => ?_⟩⟩
  · obtain ⟨t, ht, hframe, hstores, ha, hflags⟩ := exec_rotateDigits (i := .rld) (s := s) rfl
    refine ⟨t, _, ht, hframe, hstores, ?_, ?_, hflags⟩
    · rw [toNat_digits, toNat_lowDigit, toNat_lowDigit, a_eq_reg8]
    · rw [ha, toNat_digits, toNat_highDigit, toNat_highDigit, a_eq_reg8]
  · obtain ⟨t, ht, hframe, hstores, ha, hflags⟩ := exec_rotateDigits (i := .rrd) (s := s) rfl
    refine ⟨t, _, ht, hframe, hstores, ?_, ?_, hflags⟩
    · rw [toNat_digits, toNat_lowDigit, toNat_highDigit, a_eq_reg8]
    · rw [ha, toNat_digits, toNat_highDigit, toNat_lowDigit, a_eq_reg8]

end Sys2Proof.Machine

/-! PROOFS. The family 46_bit.md: bit test, reset and set (O49, O50).

BIT writes F alone (`exec_setFlags`), with the flags that `bitFlags_eq` names by bits of the byte. RES and SET write F as it was and
then the byte where the form says (`exec_putCb`); the byte is `withBit`, and `getLsbD_withBit` is the one fact about it. -/

namespace Sys2Proof.Machine

open Sys2Proof

/-! ### The encodings of the statements -/

theorem reads_resInstr_setInstr (b : Oct) (f : CbForm) :
    Reads f.context (f.bytes 0x80 (octVal b)) (resInstr b f) ∧ Reads f.context (f.bytes 0xC0 (octVal b)) (setInstr b f) := by
  cases f with
  | reg r =>
    simp only [CbForm.bytes, regNumber_eq]
    exact ⟨reads_of_eq_encode (.resR b r) rfl rfl, reads_of_eq_encode (.setR b r) rfl rfl⟩
  | indHl => exact ⟨reads_of_eq_encode (.resIndHl b) rfl rfl, reads_of_eq_encode (.setIndHl b) rfl rfl⟩
  | idx x d => exact ⟨reads_of_eq_encode (.resIdx x d b) rfl rfl, reads_of_eq_encode (.setIdx x d b) rfl rfl⟩
  | copy x d r =>
    simp only [CbForm.bytes, regNumber_eq]
    exact ⟨reads_of_eq_encode (.resIdxR x d b r) rfl rfl, reads_of_eq_encode (.setIdxR x d b r) rfl rfl⟩

/-! ### The flags of BIT (R400) -/

theorem bitMask_ne_zero (b : Oct) : bitMask b ≠ 0 := by cases b <;> decide

/-- The masked byte is the mask itself where the bit is set. -/
theorem and_bitMask_beq_zero (b : Oct) (v : Byte) : (v &&& bitMask b == 0) = !v.getLsbD (octVal b) := by
  have hmask : v &&& bitMask b = if v.getLsbD (octVal b) then bitMask b else 0 := BitVec.and_twoPow v (octVal b)
  rw [hmask]
  cases v.getLsbD (octVal b)
  · rfl
  · exact beq_eq_false_iff_ne.mpr (bitMask_ne_zero b)

theorem bitFlags_eq (b : Oct) (v yx : Byte) (g : Flags) :
    bitFlags b v yx g =
      { g with
        z := !v.getLsbD (octVal b), pv := !v.getLsbD (octVal b)
        s := decide (b = .o7) && v.getLsbD 7, h := true, n := false
        y := yx.getLsbD 5, x := yx.getLsbD 3 } := by
  have hsign : (b == .o7 && (v &&& bitMask b != 0)) = (decide (b = .o7) && v.getLsbD 7) := by
    rw [bne, and_bitMask_beq_zero, Bool.not_not]
    cases b <;> rfl
  rw [bitFlags, hsign, and_bitMask_beq_zero]

/-! ### The byte of RES and SET (R403, R406) -/

theorem getLsbD_clearBit (b : Oct) (v : Byte) (k : Nat) (hk : k < 8) :
    (clearBit b v).getLsbD k = if k = octVal b then false else v.getLsbD k := by
  have hones : (0xFF : Byte).getLsbD k = true := BitVec.getLsbD_allOnes.trans (decide_eq_true hk)
  rw [clearBit, BitVec.getLsbD_and, BitVec.getLsbD_xor, hones, getLsbD_bitMask b k hk]
  split <;> simp [*]

theorem getLsbD_putBit (b : Oct) (v : Byte) (k : Nat) (hk : k < 8) :
    (putBit b v).getLsbD k = if k = octVal b then true else v.getLsbD k := by
  rw [putBit, BitVec.getLsbD_or, getLsbD_bitMask b k hk]
  split <;> simp [*]

/-- Bit `b` of the byte becomes `on`. -/
def withBit (b : Oct) : Bool → Byte → Byte
  | false => clearBit b
  | true => putBit b

theorem getLsbD_withBit (b : Oct) (on : Bool) (v : Byte) :
    ∀ k : Nat, k < 8 → (withBit b on v).getLsbD k = if k = octVal b then on else v.getLsbD k := by
  cases on
  · exact getLsbD_clearBit b v
  · exact getLsbD_putBit b v

/-! ### RES and SET write F as it was, then the byte -/

theorem f_eq_packFlags (s : State) : s.f = packFlags s.flags := (pack_unpack s.f).symm

@[simp] theorem setFlags_flags (s : State) : s.setFlags s.flags = s := by
  rw [State.setFlags, ← f_eq_packFlags, State.a, State.f, word_hi_lo]

/-- The instructions of O50 with the bit that each writes. -/
def bitWrites (b : Oct) (f : CbForm) : List (Instr × Bool) := [(resInstr b f, false), (setInstr b f, true)]

theorem exec_bitWrite {b : Oct} {f : CbForm} {e : Instr × Bool} (he : e ∈ bitWrites b f) (s : State) :
    exec e.1 s = .next (((s.setFlags s.flags).putCb (withBit b e.2 (f.operand s)) f).spend f.tacts) := by
  simp only [bitWrites, List.mem_cons, List.not_mem_nil, or_false] at he
  rw [setFlags_flags]
  rcases he with rfl | rfl <;> cases f <;> rfl

/-! ### The statements -/

/-- Settles O49: every form of BIT writes F alone, with `bitFlags` of its byte and of the byte that Y and X come from. -/
theorem bitTests : Obligations.BitTests := by
  unfold Obligations.BitTests
  refine ⟨fun b r => ⟨reads_of_eq_encode (.bitR b r) rfl, fun s => ?_⟩,
    fun b => ⟨reads_of_eq_encode (.bitIndHl b) rfl rfl, fun s => ?_⟩,
    fun x d b z => ⟨reads_of_eq_encode (.bitIdx x d b z) rfl rfl, fun s => ?_⟩⟩
  · rw [← bitFlags_eq b (s.reg8 r) (s.reg8 r)]
    exact exec_setFlags (w := s.wz) rfl
  · rw [← bitFlags_eq b (s.read8 s.hl) (hi s.wz)]
    exact exec_setFlags (w := s.wz) rfl
  · intro ea
    rw [← bitFlags_eq b (s.read8 ea) (hi ea)]
    exact exec_setFlags rfl

/-- Settles O50: the byte with its bit reset or set goes where the form says, and F is written as it was. -/
theorem bitResetAndSet : Obligations.BitResetAndSet := by
  unfold Obligations.BitResetAndSet
  intro b f
  obtain ⟨hres, hset⟩ := reads_resInstr_setInstr b f
  refine ⟨hres, hset, fun e he s => ?_⟩
  obtain ⟨t, ht, hframe, hreg, hstores, hflags⟩ := exec_putCb (exec_bitWrite he s)
  have hf : t.f = s.f := by rw [f_eq_packFlags, hflags, ← f_eq_packFlags]
  exact ⟨t, _, ht, hframe, hf, getLsbD_withBit b e.2 (f.operand s), hreg, hstores⟩

end Sys2Proof.Machine

/-! PROOFS. The family 47_control.md: jumps, calls, returns and restarts (O51 to O54).

`JP (HL)` and `JP (IXY)` write PC alone. Every other form goes to its target by `State.goTo`: after nothing, after a push or after a pop,
each said once; the return from a handler restores IFF1 as well. A form with a condition is one of two such updates, by the flag that
the condition names (`holds_eq_condHolds`). The target of a relative jump is a sum of integers modulo 2^16 (`toNat_relative`). -/

namespace Sys2Proof.Machine

open Sys2Proof

/-! ### The conditions (R124) -/

section

variable (s : State)

theorem holds_eq_condHolds (cc : Cond) : s.holds cc = condHolds s.flags cc := by cases cc <;> rfl

theorem holdsJr_eq_jrCondHolds (cc : JrCond) : s.holdsJr cc = jrCondHolds s.flags cc := by cases cc <;> rfl

end

/-! ### Where a jump goes -/

section

variable (s : State) {t : State} (a v : Word) (e : Byte) (n : Nat)

/-- The displacement is signed and the sum wraps (R422). -/
theorem toNat_relative : ((s.relative e).toNat : Int) = (s.pc.toNat + e.toInt) % 2 ^ 16 := by
  have hsext : sext16 e = BitVec.ofInt 16 e.toInt := rfl
  rw [State.relative, hsext, BitVec.toNat_add, BitVec.toNat_ofInt]
  omega

theorem goTo_relative_spend_spec (ht : t = (s.goTo (s.relative e)).spend n) :
    t = { s with pc := t.pc, wz := t.pc, tacts := s.tacts + n } ∧ (t.pc.toNat : Int) = (s.pc.toNat + e.toInt) % 2 ^ 16 := by
  subst ht
  exact ⟨rfl, toNat_relative s e⟩

/-- A call or a restart: the push of `v`, then PC and WZ. -/
theorem push16_goTo_spend_spec (ht : t = ((s.push16 v).goTo a).spend n) :
    t = { s with mem := t.mem, sp := s.sp - 2, pc := a, wz := a, tacts := s.tacts + n } ∧
    s.Stores t [(s.sp - 1, hi v), (s.sp - 2, lo v)] := by
  obtain ⟨hframe, hstores⟩ := push16_spend_spec s v n rfl
  subst ht
  exact ⟨congrArg (State.goTo · a) hframe, State.stores_of_mem hstores.memory⟩

theorem pop16_goTo_spend_spec (ht : t = (s.dropped16.goTo s.top16).spend n) :
    t = { s with sp := s.sp + 2, pc := t.pc, wz := t.pc, tacts := s.tacts + n } ∧
    lo t.pc = s.read8 s.sp ∧ hi t.pc = s.read8 (s.sp + 1) := by
  subst ht
  exact ⟨rfl, lo_top16 s, hi_top16 s⟩

theorem leaveHandler_spend_spec (ht : t = s.leaveHandler.spend n) :
    t = { s with sp := s.sp + 2, pc := t.pc, wz := t.pc, iff1 := s.iff2, tacts := s.tacts + n } ∧
    lo t.pc = s.read8 s.sp ∧ hi t.pc = s.read8 (s.sp + 1) := by
  subst ht
  exact ⟨rfl, lo_top16 s, hi_top16 s⟩

end

/-! ### The forms with a condition -/

section

variable (s : State) (cc : Cond) (nn : Word) (e : Byte)

theorem exec_jpCcNn :
    exec (.jpCcNn cc nn) s = .next
      { s with pc := if condHolds s.flags cc = true then nn else s.pc, wz := nn, tacts := s.tacts + (10 - 4) } := by
  have hexec : exec (.jpCcNn cc nn) s = .next ((if s.holds cc then s.goTo nn else { s with wz := nn }).spend 6) := rfl
  rw [hexec, holds_eq_condHolds]
  split <;> rfl

theorem exec_callCcNn :
    exec (.callCcNn cc nn) s = .next
      (if condHolds s.flags cc then ((s.push16 s.pc).goTo nn).spend 13 else ({ s with wz := nn } : State).spend 6) := by
  rw [← holds_eq_condHolds]
  rfl

theorem exec_retCc :
    exec (.retCc cc) s = .next (if condHolds s.flags cc then (s.dropped16.goTo s.top16).spend 7 else s.spend 1) := by
  rw [← holds_eq_condHolds]
  rfl

theorem exec_jrCc (jc : JrCond) :
    exec (.jrCc jc e) s = .next (if jrCondHolds s.flags jc then (s.goTo (s.relative e)).spend 8 else s.spend 3) := by
  rw [← holdsJr_eq_jrCondHolds]
  rfl

/-- The state of DJNZ with B counted. -/
def State.counted : State := s.setReg8 .b (s.reg8 .b - 1)

/-- B is 0 after the count where it was 1 before (R424). -/
theorem exec_djnz :
    exec (.djnz e) s = .next (if s.reg8 .b = 1 then s.counted.spend 4 else (s.counted.goTo (s.counted.relative e)).spend 9) := by
  have hexec : exec (.djnz e) s = .next
      (if s.reg8 .b - 1 != 0 then (s.counted.goTo (s.counted.relative e)).spend 9 else s.counted.spend 4) := rfl
  rw [hexec, sub_bne_zero]
  simp only [decide_eq_true_eq, ite_not]

end

/-! ### RETI and RETN -/

/-- The field y of RETN does not matter (R432). -/
theorem exec_leaveHandler {y : Oct} {i : Instr} (hi : i ∈ [Instr.reti, .retn y]) (s : State) :
    exec i s = .next (s.leaveHandler.spend 6) := by
  simp only [List.mem_cons, List.not_mem_nil, or_false] at hi
  rcases hi with rfl | rfl <;> rfl

/-! ### The statements -/

/-- Settles O51: each form writes PC alone, or PC and WZ. -/
theorem absoluteJumps : Obligations.AbsoluteJumps := by
  unfold Obligations.AbsoluteJumps
  refine ⟨fun l h => ?_, fun _ _ => rfl, fun cc l h => ?_, fun cc nn s => exec_jpCcNn s cc nn, ⟨reads_op rfl, fun _ => rfl⟩,
    fun x => ⟨reads_op rfl, fun _ => rfl⟩⟩
  · exact wordBytes_word l h ▸ reads_opNn rfl
  · exact wordBytes_word l h ▸ reads_opNn (by cases cc <;> rfl)

/-- Settles O52: the three forms are one relative jump; DJNZ jumps from the state with B counted. -/
theorem relativeJumps : Obligations.RelativeJumps := by
  unfold Obligations.RelativeJumps
  refine ⟨fun e => ⟨reads_opN rfl, fun s => ⟨_, rfl, ?_⟩⟩,
    fun cc e => ⟨reads_opN (by cases cc <;> rfl), fun s => ⟨_, exec_jrCc s e cc, ?_⟩⟩,
    fun e => ⟨reads_opN rfl, fun s => ⟨_, exec_djnz s e, ?_⟩⟩⟩
  · exact goTo_relative_spend_spec s e 8 rfl
  · split_ifs
    · exact goTo_relative_spend_spec s e 8 rfl
    · rfl
  · have hb : s.counted.reg8 .b = s.reg8 .b - 1 := reg8_setReg8 s .b .b _
    have hc : s.counted.reg8 .c = s.reg8 .c := reg8_setReg8 s .c .b _
    split_ifs
    · exact ⟨hb, hc, rfl⟩
    · exact ⟨hb, hc, goTo_relative_spend_spec s.counted e 9 rfl⟩

/-- Settles O53: the three forms are one push and jump; `CALL cc`, not taken, latches WZ alone. -/
theorem callsAndRestarts : Obligations.CallsAndRestarts := by
  unfold Obligations.CallsAndRestarts
  refine ⟨fun l h => ?_, fun nn s => ⟨_, rfl, ?_⟩, fun cc l h => ?_, fun cc nn s => ⟨_, exec_callCcNn s cc nn, ?_⟩,
    fun y => ⟨reads_op (by cases y <;> rfl), fun s => ⟨_, rfl, ?_⟩⟩⟩
  · exact wordBytes_word l h ▸ reads_opNn rfl
  · exact push16_goTo_spend_spec s nn s.pc 13 rfl
  · exact wordBytes_word l h ▸ reads_opNn (by cases cc <;> rfl)
  · split_ifs
    · exact push16_goTo_spend_spec s nn s.pc 13 rfl
    · rfl
  · exact push16_goTo_spend_spec s (BitVec.ofNat 16 (octVal y * 8)) s.pc 7 rfl

/-- Settles O54: RET and `RET cc` are one pop and jump, RETI and RETN one return from a handler. -/
theorem returns : Obligations.Returns := by
  unfold Obligations.Returns
  refine ⟨⟨reads_op rfl, fun s => ⟨_, rfl, ?_⟩⟩,
    fun cc => ⟨reads_op (by cases cc <;> rfl), fun s => ⟨_, exec_retCc s cc, ?_⟩⟩, reads_op rfl, fun y hy => ?_,
    fun y i hi s => ⟨_, exec_leaveHandler hi s, ?_⟩⟩
  · exact pop16_goTo_spend_spec s 6 rfl
  · split_ifs
    · exact pop16_goTo_spend_spec s 7 rfl
    · rfl
  · exact reads_of_eq_encode (.retn y) (bne_iff_ne.mpr hy) (by cases y <;> rfl)
  · exact leaveHandler_spend_spec s 6 rfl

end Sys2Proof.Machine

/-! PROOFS. The family 48_io.md: input and output (O55 to O58).

`IN A,(n)` and `IN r,(C)` write one register after the draw, so the rules of `State.setReg8` say what they leave; every OUT is its event
with WZ latched. The block forms are a body, moving by 1 or -1, and then `Repeat()` (R288). Both bodies write F last, over a state with A
kept and B counted: what A, B, C and the flags are after that, and after the repeat, is said once for the eight forms
(`setFlags_ioFlags_repeatIf_spec`). -/

namespace Sys2Proof.Machine

open Sys2Proof

/-! ### The flags of input (R462, R466) -/

theorem inFlags_spec (v : Byte) (g : Flags) :
    (inFlags v g).ShowsByte v ∧ (inFlags v g).h = false ∧ (inFlags v g).pv = evenOnes v ∧ (inFlags v g).n = false ∧
    (inFlags v g).c = g.c :=
  ⟨szxy_shows g v, rfl, parity_eq_evenOnes v, rfl, rfl⟩

theorem ioFlags_spec (v b : Byte) (k : Nat) (g : Flags) :
    (ioFlags v b k g).ShowsByte b ∧ (ioFlags v b k g).n = v.getLsbD 7 ∧ (ioFlags v b k g).h = decide (k > 0xFF) ∧
    (ioFlags v b k g).c = decide (k > 0xFF) ∧ (ioFlags v b k g).pv = evenOnes ((BitVec.ofNat 8 k &&& 0x07) ^^^ b) :=
  ⟨szxy_shows g b, rfl, rfl, rfl, parity_eq_evenOnes _⟩

/-! ### IN r,(C) and IN (C) -/

section

variable (s : State)

theorem flags_inFromBc : s.inFromBc.flags = inFlags (s.portByte s.bc) s.flags :=
  flags_setFlags { s.portDrawn with wz := s.bc + 1 } _

theorem reg8_inFromBc (q : Reg8) : s.inFromBc.reg8 q = s.reg8 q := by
  refine (reg8_setFlags { s.portDrawn with wz := s.bc + 1 } _ q).trans ?_
  cases q <;> rfl

/-- The state after the port read, with the byte in a register or in none (R462, R463). -/
def State.inTo : Option Reg8 → State
  | none => s.inFromBc
  | some r => s.inFromBc.setReg8 r (s.portByte s.bc)

variable (dst : Option Reg8)

theorem inTo_frame :
    s.inTo dst = { s with
      af := (s.inTo dst).af, bc := (s.inTo dst).bc, de := (s.inTo dst).de, hl := (s.inTo dst).hl, wz := s.bc + 1
      portIn := s.portIn.tail, draws := s.draws + 1, tacts := s.tacts + (12 - 8) } := by
  cases dst with
  | none => rfl
  | some r => cases r <;> rfl

theorem reg8_inTo (q : Reg8) : (s.inTo dst).reg8 q = if dst = some q then s.portByte s.bc else s.reg8 q := by
  cases dst with
  | none => exact reg8_inFromBc s q
  | some r =>
    refine (reg8_setReg8 s.inFromBc q r _).trans ?_
    simp only [reg8_inFromBc, Option.some.injEq, eq_comm]

theorem flags_inTo : (s.inTo dst).flags = inFlags (s.portByte s.bc) s.flags := by
  cases dst with
  | none => exact flags_inFromBc s
  | some r => exact (flags_setReg8 s.inFromBc r _).trans (flags_inFromBc s)

end

/-- The forms of O55 that read the port BC, with the register that takes the byte. -/
def bcInputs (r : Reg8) : List (Instr × Option Reg8) := [(.inIndC, none), (.inRIndC r, some r)]

theorem exec_bcInput {r : Reg8} {e : Instr × Option Reg8} (he : e ∈ bcInputs r) (s : State) :
    exec e.1 s = .next (s.inTo e.2) := by
  simp only [bcInputs, List.mem_cons, List.not_mem_nil, or_false] at he
  rcases he with rfl | rfl <;> rfl

/-! ### The block forms -/

/-- What a block form leaves of A, B, C and the flags: F is written over a state `u` with A kept and B counted. -/
theorem setFlags_ioFlags_repeatIf_spec {s u t : State} {v : Byte} {k : Nat} {again : Bool}
    (ht : t = (u.setFlags (ioFlags v (s.reg8 .b - 1) k s.flags)).repeatIf again)
    (hbc : u.bc = s.counted.bc) (haf : u.af = s.af) :
    t.reg8 .b = s.reg8 .b - 1 ∧ t.reg8 .c = s.reg8 .c ∧ t.reg8 .a = s.reg8 .a ∧
    t.flags.ShowsByte (s.reg8 .b - 1) ∧ t.flags.n = v.getLsbD 7 ∧ t.flags.h = decide (k > 0xFF) ∧
    t.flags.c = decide (k > 0xFF) ∧ t.flags.pv = evenOnes ((BitVec.ofNat 8 k &&& 0x07) ^^^ (s.reg8 .b - 1)) := by
  have hreg : ∀ q : Reg8, t.reg8 q = u.reg8 q := fun q => by rw [ht, reg8_repeatIf, reg8_setFlags]
  have hf : t.flags = ioFlags v (s.reg8 .b - 1) k s.flags := by rw [ht, flags_repeatIf, flags_setFlags]
  refine ⟨?_, ?_, ?_, hf ▸ ioFlags_spec v _ k s.flags⟩
  · exact (hreg .b).trans ((congrArg hi hbc).trans (reg8_setReg8 s .b .b _))
  · exact (hreg .c).trans ((congrArg lo hbc).trans (reg8_setReg8 s .c .b _))
  · exact (hreg .a).trans (congrArg hi haf)

theorem mem_blockIn (s : State) (delta : Word) : (s.blockIn delta).mem = s.mem.writeAll [(s.hl, s.portByte s.bc)] := rfl

/-- R469, R470, R473, R474: a form that repeats does so while B is not 0. -/
theorem io_again_iff (b : Byte) (rep : Bool) : (rep && b != 0) = true ↔ rep = true ∧ b ≠ 0 := by
  rw [Bool.and_eq_true, bne_iff_ne]

/-- The forms of O57: the instruction, its direction as a word and as a byte, and whether it repeats. -/
def blockInputs : List (Instr × Word × Byte × Bool) :=
  [(.ini, 1, 1, false), (.ind, -1, -1, false), (.inir, 1, 1, true), (.indr, -1, -1, true)]

/-- The forms of O58. -/
def blockOutputs : List (Instr × Word × Bool) := [(.outi, 1, false), (.outd, -1, false), (.otir, 1, true), (.otdr, -1, true)]

theorem exec_blockInput {e : Instr × Word × Byte × Bool} (he : e ∈ blockInputs) (s : State) :
    exec e.1 s = .next ((s.blockIn e.2.1).repeatIf (e.2.2.2 && s.reg8 .b - 1 != 0)) := by
  simp only [blockInputs, List.mem_cons, List.not_mem_nil, or_false] at he
  rcases he with rfl | rfl | rfl | rfl <;> rfl

theorem lo_of_mem_blockInputs {e : Instr × Word × Byte × Bool} (he : e ∈ blockInputs) : e.2.2.1 = lo e.2.1 := by
  simp only [blockInputs, List.mem_cons, List.not_mem_nil, or_false] at he
  rcases he with rfl | rfl | rfl | rfl <;> rfl

theorem exec_blockOutput {e : Instr × Word × Bool} (he : e ∈ blockOutputs) (s : State) :
    exec e.1 s = .next ((s.blockOut e.2.1).repeatIf (e.2.2 && s.reg8 .b - 1 != 0)) := by
  simp only [blockOutputs, List.mem_cons, List.not_mem_nil, or_false] at he
  rcases he with rfl | rfl | rfl | rfl <;> rfl

/-! ### The statements -/

/-- Settles O55: each form is the draw, and then a write of the register that takes the byte, where there is one. -/
theorem portInput : Obligations.PortInput := by
  unfold Obligations.PortInput
  refine ⟨fun n => ⟨reads_opN rfl, fun s => ⟨_, rfl, rfl, ?_, ?_⟩⟩, fun r => reads_of_eq_encode (.inRIndC r) rfl, reads_op rfl,
    fun r e he s => ⟨_, exec_bcInput he s, inTo_frame s e.2, reg8_inTo s e.2, ?_⟩⟩
  · exact f_setReg8 s.portDrawn .a _
  · exact reg8_setReg8 s.portDrawn .a .a _
  · rw [flags_inTo]
    exact inFlags_spec (s.portByte s.bc) s.flags

/-- Settles O56: every form is its event and the latch of WZ. -/
theorem portOutput : Obligations.PortOutput := by
  unfold Obligations.PortOutput
  exact ⟨fun n => ⟨reads_opN rfl, fun s => ⟨_, rfl, rfl, hi_word _ _, lo_word _ _⟩⟩,
    fun r => ⟨reads_op (by cases r <;> rfl), fun _ => rfl⟩, reads_op rfl, fun _ => rfl⟩

/-- Settles O57: the body of the input, then the repeat, which writes PC, WZ and the tacts alone. -/
theorem blockInput : Obligations.BlockInput := by
  unfold Obligations.BlockInput
  refine ⟨reads_op rfl, reads_op rfl, reads_op rfl, reads_op rfl, fun e he s => ?_⟩
  rw [lo_of_mem_blockInputs he]
  intro v b k
  refine ⟨_, exec_blockInput he s, ?_, ?_, ?_⟩
  · rw [repeatIf_frame _ (io_again_iff b e.2.2.2), ← repeat_tacts]
    rfl
  · exact State.stores_of_mem (by simp [mem_blockIn, v])
  · exact setFlags_ioFlags_repeatIf_spec rfl rfl rfl

/-- Settles O58: the body of the output, then the repeat. -/
theorem blockOutput : Obligations.BlockOutput := by
  unfold Obligations.BlockOutput
  refine ⟨reads_op rfl, reads_op rfl, reads_op rfl, reads_op rfl, fun e he s => ?_⟩
  intro v b k
  refine ⟨_, exec_blockOutput he s, ?_, ?_⟩
  · rw [repeatIf_frame _ (io_again_iff b e.2.2), ← repeat_tacts]
    rfl
  · exact setFlags_ioFlags_repeatIf_spec rfl rfl rfl

end Sys2Proof.Machine

/-! PROOFS. The families 49_cpu_control.md, 60_exceptions.md and 70_reset_and_hazards.md: CPU control and the steps to another context
(O59, O60), decoding and completion (O2, O17), each kind of step (O4 to O10, O16), interrupts inside an instruction (O11), the failing
collaborator (O13), the tacts (O14), and what the host may do (O19).

A step is the work of its kind after the contention of its accesses (`step_eq_of_work`). The bytes at the PC are always a well-formed
instruction of the current context (`decodeIn_three`), so an instruction step completes (`exists_executes`). That no instruction looks at
the NMI request or the INT line, and what each adds to the tacts, is said by two walks over the constructors (`exec_signalled`,
`exec_tacts`). -/

namespace Sys2Proof

-- Checked in parallel, the joined text would exceed the memory of the check.
set_option Elab.async false

/-! ### Every byte decodes (60_exceptions.md R602) -/

/-- The instruction is a well-formed one of context `c`. -/
structure Instr.IsOf (c : Context) (i : Instr) : Prop where
  wf : i.wf = true
  context : i.context = c

/-- With two bytes after its opcode, the shape is a well-formed instruction of context `c`. -/
def Shape.Gives (c : Context) (sh : Shape) : Prop :=
  ∀ (b₁ b₂ : Byte) (rest : List Byte), ∃ (i : Instr) (more : List Byte), sh.operands (b₁ :: b₂ :: rest) = .ok (i, more) ∧ i.IsOf c

/-! #### Context None -/

theorem shapePlain0_gives (y z : Oct) : (shapePlain0 y z).Gives .plain := by
  intro b₁ b₂ rest
  cases z <;> cases y <;> exact ⟨_, _, rfl, rfl, rfl⟩

theorem shapePlain1_gives (y z : Oct) : (shapePlain1 y z).Gives .plain := by
  intro b₁ b₂ rest
  unfold shapePlain1
  cases reg8Of y <;> cases reg8Of z <;> exact ⟨_, _, rfl, rfl, rfl⟩

theorem shapePlain2_gives (y z : Oct) : (shapePlain2 y z).Gives .plain := by
  intro b₁ b₂ rest
  unfold shapePlain2
  cases reg8Of z <;> cases y <;> exact ⟨_, _, rfl, rfl, rfl⟩

theorem shapePlain3_gives (y z : Oct) : (shapePlain3 y z).Gives .plain := by
  intro b₁ b₂ rest
  cases z <;> cases y <;> exact ⟨_, _, rfl, rfl, rfl⟩

theorem shapePlain_gives (op : Byte) : (shapePlain op).Gives .plain := by
  unfold shapePlain
  split
  · exact shapePlain0_gives _ _
  · exact shapePlain1_gives _ _
  · exact shapePlain2_gives _ _
  · exact shapePlain3_gives _ _

/-! #### Contexts IX and IY -/

theorem shapeIndex0_gives (x : Index) (y z : Oct) : ∀ sh ∈ shapeIndex0 x y z, sh.Gives (.index x) := by
  unfold shapeIndex0
  split <;> rintro _ ⟨⟩ b₁ b₂ rest <;> exact ⟨_, _, rfl, rfl, rfl⟩

theorem shapeIndex1_gives (x : Index) (y z : Oct) : ∀ sh ∈ shapeIndex1 x y z, sh.Gives (.index x) := by
  unfold shapeIndex1
  cases reg8Of y <;> cases reg8Of z
  case some.some =>
    dsimp only
    split_ifs with h <;> rintro _ ⟨⟩ b₁ b₂ rest
    exact ⟨_, _, rfl, h, rfl⟩
  all_goals rintro _ ⟨⟩ b₁ b₂ rest <;> exact ⟨_, _, rfl, rfl, rfl⟩

theorem shapeIndex2_gives (x : Index) (y z : Oct) : ∀ sh ∈ shapeIndex2 x y z, sh.Gives (.index x) := by
  unfold shapeIndex2
  split <;> rintro _ ⟨⟩ b₁ b₂ rest <;> cases y <;> exact ⟨_, _, rfl, rfl, rfl⟩

theorem shapeIndex3_gives (x : Index) (y z : Oct) : ∀ sh ∈ shapeIndex3 x y z, sh.Gives (.index x) := by
  unfold shapeIndex3
  split <;> rintro _ ⟨⟩ b₁ b₂ rest <;> exact ⟨_, _, rfl, rfl, rfl⟩

theorem shapeIndexRow_gives {x : Index} {op : Byte} {sh : Shape} (h : shapeIndexRow x op = some sh) : sh.Gives (.index x) := by
  unfold shapeIndexRow at h
  split at h
  · exact shapeIndex0_gives _ _ _ sh h
  · exact shapeIndex1_gives _ _ _ sh h
  · exact shapeIndex2_gives _ _ _ sh h
  · exact shapeIndex3_gives _ _ _ sh h

/-- Where no row of context IX|IY matches, what context None reads may stand in the fall-back (R115). -/
theorem shapeIndex_gives (x : Index) (op : Byte) : (shapeIndex x op).Gives (.index x) := by
  unfold shapeIndex
  split
  next sh h => exact shapeIndexRow_gives h
  next h =>
    intro b₁ b₂ rest
    obtain ⟨j, more, hj, -, -⟩ := shapePlain_gives op b₁ b₂ rest
    have hun : j.unsubstituted = true := by simpa [h] using (shapePlain_unsubstituted x op).operands hj
    exact ⟨_, _, Shape.operands_map (.anyOther x) hj, hun, rfl⟩

/-! #### Contexts CB, IXCB and IYCB -/

theorem instrCb_isOf (op : Byte) : (instrCb op).IsOf .cb := by
  unfold instrCb
  split
  case h_1 | h_2 => cases fieldY op <;> exact ⟨rfl, rfl⟩
  all_goals exact ⟨rfl, rfl⟩

theorem instrIndexCb_isOf (x : Index) (d op : Byte) : (instrIndexCb x d op).IsOf (.indexCb x) := by
  unfold instrIndexCb
  split
  case h_1 | h_2 => cases fieldY op <;> exact ⟨rfl, rfl⟩
  all_goals exact ⟨rfl, rfl⟩

/-! #### Context ED: which bytes are undefined opcodes depends on the whole byte (R135) -/

theorem shapeEd1_gives {op : Byte} {y z : Oct} (h : opcode 1 y z = op) : (shapeEd1 op y z).Gives .ed := by
  intro b₁ b₂ rest
  subst h
  cases z <;> cases y <;> exact ⟨_, _, rfl, rfl, rfl⟩

theorem shapeEd2_gives {op : Byte} {y z : Oct} (h : opcode 2 y z = op) : (shapeEd2 op y z).Gives .ed := by
  intro b₁ b₂ rest
  subst h
  cases y <;> cases z <;> exact ⟨_, _, rfl, rfl, rfl⟩

theorem undefinedEd_of_fieldX {op : Byte} (h₁ : fieldX op ≠ 1) (h₂ : fieldX op ≠ 2) : undefinedEd op = true := by
  revert op; decide +kernel

theorem shapeEd_gives (op : Byte) : (shapeEd op).Gives .ed := by
  unfold shapeEd
  split
  next hx => exact shapeEd1_gives (hx ▸ opcode_fields op)
  next hx => exact shapeEd2_gives (hx ▸ opcode_fields op)
  next h₁ h₂ => exact fun _ _ _ => ⟨_, _, rfl, undefinedEd_of_fieldX h₁ h₂, rfl⟩

/-! #### The decoder -/

theorem decodeIn_three (c : Context) (b₀ b₁ b₂ : Byte) (rest : List Byte) :
    ∃ (i : Instr) (more : List Byte), decodeIn c (b₀ :: b₁ :: b₂ :: rest) = .ok (i, more) ∧ i.IsOf c := by
  cases c with
  | plain => exact shapePlain_gives b₀ b₁ b₂ rest
  | cb => exact ⟨_, _, rfl, instrCb_isOf b₀⟩
  | ed => exact shapeEd_gives b₀ b₁ b₂ rest
  | index x => exact shapeIndex_gives x b₀ b₁ b₂ rest
  | indexCb x => exact ⟨_, _, rfl, instrIndexCb_isOf x b₀ b₁⟩

/-- The tacts that the fetch leaves to the instruction, of the 4 that a step adds at least: all of them in IXCB and IYCB, where no M1
fetch is made (30_encoding.md R118). -/
def Context.unfetchedTacts : Context → Nat
  | .indexCb _ => 4
  | .plain | .cb | .ed | .index _ => 0

end Sys2Proof

namespace Sys2Proof.Machine

open Sys2Proof

-- Checked in parallel, the joined text would exceed the memory of the check.
set_option Elab.async false

/-! ### CPU control and the steps to another context (49_cpu_control.md) -/

theorem opcode_im (y : Oct) : [opcode 0x46 (octVal y) 0] = [Sys2Proof.opcode 1 y .o6] :=
  congrArg (fun n => [BitVec.ofNat 8 n]) (by simp only [octVal]; omega)

/-- Settles O59: each form is one record update, or none; which fields y are of which IM is `Instr.wf`. -/
theorem cpuControl : Obligations.CpuControl := by
  unfold Obligations.CpuControl
  refine ⟨⟨reads_op rfl, fun _ => rfl⟩, ⟨reads_op rfl, fun _ => rfl⟩, ⟨reads_op rfl, fun _ => rfl⟩, ⟨reads_op rfl, fun _ => rfl⟩,
    fun y hy => ⟨reads_of_eq_encode (.im0 y) ?_ (opcode_im y), fun _ => rfl⟩,
    fun y hy => ⟨reads_of_eq_encode (.im1 y) ?_ (opcode_im y), fun _ => rfl⟩,
    fun y hy => ⟨reads_of_eq_encode (.im2 y) ?_ (opcode_im y), fun _ => rfl⟩,
    fun op h => ⟨reads_op (shapeEd_undefined h), fun _ => rfl⟩⟩
  all_goals simpa [Instr.wf, or_assoc] using hy

/-- Settles O60: each of the bytes is fixed, and its step writes the modes alone. -/
theorem prefixSteps : Obligations.PrefixSteps := by
  unfold Obligations.PrefixSteps
  exact ⟨⟨reads_op rfl, fun _ => rfl⟩, ⟨reads_op rfl, fun _ => rfl⟩, ⟨reads_op rfl, fun _ => rfl⟩, ⟨reads_op rfl, fun _ => rfl⟩,
    fun x => ⟨⟨reads_op rfl, fun _ => rfl⟩, ⟨reads_op rfl, fun _ => rfl⟩, ⟨reads_op rfl, fun _ => rfl⟩, reads_op rfl, fun _ => rfl⟩⟩

/-! ### Every instruction completes (R600, R630) -/

/-- With the fall-back taken off, a well-formed instruction is no fall-back, and is executed alike (30_encoding.md R115). -/
theorem exec_coreInstr {i : Instr} (hi : i.wf = true) :
    (∀ x j, coreInstr i ≠ .anyOther x j) ∧ i.context.unfetchedTacts = (coreInstr i).context.unfetchedTacts ∧
    ∀ s, exec i s = exec (coreInstr i) s := by
  cases i
  case anyOther x j =>
    obtain ⟨hc, -, hj, hexec⟩ := unsubstituted_spec hi
    exact ⟨hj, (congrArg Context.unfetchedTacts hc).symm, hexec x⟩
  all_goals exact ⟨nofun, rfl, fun _ => rfl⟩

/-- Settles O17: a fall-back completes as its instruction of context None does, and every other instruction by its meaning. -/
theorem everyInstructionCompletes : Obligations.EveryInstructionCompletes := by
  unfold Obligations.EveryInstructionCompletes
  intro i s hi
  obtain ⟨hn, -, hexec⟩ := exec_coreInstr hi
  exact hexec s ▸ exec_completes hn s

/-! ### What no instruction looks at, and what each adds to the tacts -/

/-- The state with another NMI request and another level of the INT line. -/
def State.signalled (s : State) (n l : Bool) : State := { s with nmiPending := n, intLine := l }

section

variable {s t t' u u' : State} {b : Bool}

theorem signalled_ite {n l : Bool} (ht : t' = t.signalled n l) (hu : u' = u.signalled n l) :
    (.next (if b then t' else u') : Result) = .next ((if b then t else u).signalled n l) := by
  subst ht hu
  cases b <;> rfl

theorem signalled_repeatIf {n l : Bool} (ht : t' = t.signalled n l) :
    (.next (t'.repeatIf b) : Result) = .next ((t.repeatIf b).signalled n l) := by
  subst ht
  cases b <;> rfl

/-- No instruction looks at the two signals. Where an operand names the register that is written, the case of that operand shows it. -/
theorem exec_signalled {i : Instr} (hi : ∀ x j, i ≠ .anyOther x j) (h : exec i s = .next t) (n l : Bool) :
    exec i (s.signalled n l) = .next (t.signalled n l) := by
  cases i
  case anyOther x j => exact absurd rfl (hi x j)
  -- a condition decides between two updates
  case jpCcNn cc nn =>
    cases (exec_jpCcNn s cc nn).symm.trans h
    exact exec_jpCcNn (s.signalled n l) cc nn
  case djnz | jrCc | retCc | callCcNn => cases h; exact signalled_ite rfl rfl
  case ldir | lddr | cpir | cpdr | inir | indr | otir | otdr => cases h; exact signalled_repeatIf rfl
  -- an operand names the register
  case incR r | decR r | ldRR r _ | rlcR r | rrcR r | rlR r | rrR r | slaR r | sraR r | sllR r | srlR r | resR _ r | setR _ r | ldRN r _
    | ldRIndHl r | ldRIdx _ r _ | inRIndC r | rlcIdxR _ _ r | rrcIdxR _ _ r | rlIdxR _ _ r | rrIdxR _ _ r | slaIdxR _ _ r
    | sraIdxR _ _ r | sllIdxR _ _ r | srlIdxR _ _ r | resIdxR _ _ _ r | setIdxR _ _ _ r =>
    cases h; cases r <;> rfl
  case ldRpNn p _ | incRp p | decRp p | ldRpIndNn p _ => cases h; cases p <;> rfl
  case popRp q => cases h; cases q <;> rfl
  case addXRp x _ | ldXNn x _ | ldXIndNn x _ | incX x | decX x | popX x | exIndSpX x => cases h; cases x <;> rfl
  case incXHalf x q | decXHalf x q | ldXHalfN x q _ => cases h; cases x <;> cases q <;> rfl
  case ldRRHalves x r _ => cases h; cases x <;> cases r <;> rfl
  all_goals cases h; rfl

theorem le_tacts_ite {m : Nat} (ht : m ≤ t.tacts) (hu : m ≤ u.tacts) : m ≤ (if b then t else u).tacts := by
  cases b <;> assumption

theorem le_tacts_repeatIf {m : Nat} (ht : m ≤ t.tacts) : m ≤ (t.repeatIf b).tacts := by
  cases b
  · exact ht
  · exact Nat.le_add_right_of_le ht

/-- A cost that is at least `k`, both of them numbers. -/
theorem spends {a k cost : Nat} (h : Nat.ble k cost = true := by rfl) : a + k ≤ a + cost :=
  Nat.add_le_add_left (Nat.le_of_ble_eq_true h) a

/-- No instruction takes tacts off the counter, and each of IXCB and IYCB adds at least 4. -/
theorem exec_tacts {i : Instr} (hi : ∀ x j, i ≠ .anyOther x j) (h : exec i s = .next t) :
    s.tacts + i.context.unfetchedTacts ≤ t.tacts := by
  cases i
  case anyOther x j => exact absurd rfl (hi x j)
  -- the fetch is the whole cost
  case nop | exAfAf | rlca | rrca | rla | rra | daa | cpl | scf | ccf | halt | addR | adcR | subR | sbcR | andR | xorR | orR | cpR | exx
    | jpIndHl | cbPrefix | exDeHl | di | ei | ddPrefix | edPrefix | fdPrefix | addXHalf | adcXHalf | subXHalf | sbcXHalf | andXHalf
    | xorXHalf | orXHalf | cpXHalf | jpX | cbPrefixX | ddPrefixX | edPrefixX | fdPrefixX | bitR | neg | im0 | im1 | im2 | nopEd =>
    cases h; exact Nat.le_refl _
  case incR r | decR r | ldRR r _ | rlcR r | rrcR r | rlR r | rrR r | slaR r | sraR r | sllR r | srlR r | resR _ r | setR _ r =>
    cases h; cases r <;> exact Nat.le_refl _
  case incXHalf x q | decXHalf x q => cases h; cases x <;> cases q <;> exact Nat.le_refl _
  case ldRRHalves x r _ => cases h; cases x <;> cases r <;> exact Nat.le_refl _
  -- the cost depends on a condition
  case jpCcNn cc nn => cases (exec_jpCcNn s cc nn).symm.trans h; exact spends
  case djnz | jrCc | retCc | callCcNn => cases h; exact le_tacts_ite spends spends
  case ldir | lddr | cpir | cpdr | inir | indr | otir | otdr => cases h; exact le_tacts_repeatIf spends
  -- a number of tacts beyond the fetch
  case ldRN r _ | ldRIndHl r | ldRIdx _ r _ | inRIndC r | rlcIdxR _ _ r | rrcIdxR _ _ r | rlIdxR _ _ r | rrIdxR _ _ r | slaIdxR _ _ r
    | sraIdxR _ _ r | sllIdxR _ _ r | srlIdxR _ _ r | resIdxR _ _ _ r | setIdxR _ _ _ r =>
    cases h; cases r <;> exact spends
  case ldRpNn p _ | incRp p | decRp p | ldRpIndNn p _ => cases h; cases p <;> exact spends
  case popRp q => cases h; cases q <;> exact spends
  case addXRp x _ | ldXNn x _ | ldXIndNn x _ | incX x | decX x | popX x | exIndSpX x => cases h; cases x <;> exact spends
  case ldXHalfN x q _ => cases h; cases x <;> cases q <;> exact spends
  all_goals cases h; exact spends

end

/-! ### The instruction step -/

/-- The instruction step from `s` executes `i`, an instruction of `k` bytes, and ends in `t`. -/
structure State.Executes (s : State) (i : Instr) (k : Nat) (t : State) : Prop where
  decoded : s.decoded = .ok (i, k)
  isOf : i.IsOf s.context
  executed : exec i (s.entering i k) = .next t

theorem State.Executes.instrStep {s t : State} {i : Instr} {k : Nat} (h : s.Executes i k t) : s.instrStep = .next t := by
  rw [State.instrStep, h.decoded]
  exact h.executed

theorem exists_executes (s : State) : ∃ i k t, s.Executes i k t := by
  obtain ⟨i, rest, hd, hi⟩ := decodeIn_three s.context (s.read8 s.pc) (s.read8 (s.pc + 1)) (s.read8 (s.pc + 2)) []
  obtain ⟨t, ht⟩ := everyInstructionCompletes i (s.entering i (3 - rest.length)) hi.wf
  exact ⟨i, _, t, decoded_ok hd, hi, ht⟩

theorem executes_of_instrStep {s t : State} (h : s.instrStep = .next t) : ∃ i k, s.Executes i k t := by
  obtain ⟨i, k, u, hu⟩ := exists_executes s
  cases hu.instrStep.symm.trans h
  exact ⟨i, k, hu⟩

/-! ### The step, by its kind (R611, R627) -/

section

variable {s : State}

theorem stepKind_eq_reset_iff : s.stepKind = .reset ↔ s.resetPending = true := by
  unfold State.stepKind
  split_ifs <;> simp [*]

theorem stepKind_nmiAck (hr : s.resetPending = false) (hb : s.boundary = true) (hn : s.nmiPending = true) : s.stepKind = .nmiAck := by
  simp [State.stepKind, *]

theorem stepKind_intAck (hr : s.resetPending = false) (hb : s.boundary = true) (hn : s.nmiPending = false) (ha : s.acceptsInt = true) :
    s.stepKind = .intAck := by
  simp [State.stepKind, *]

theorem stepKind_halted (hr : s.resetPending = false) (hb : s.boundary = true) (hn : s.nmiPending = false) (ha : s.acceptsInt = false)
    (hh : s.halted = true) : s.stepKind = .halted := by
  simp [State.stepKind, *]

theorem stepKind_of_not_boundary (hr : s.resetPending = false) (hb : s.boundary = false) : s.stepKind = .instruction := by
  simp [State.stepKind, *]

/-- Where every collaborator answers and the work, after the contention of the accesses, ends in `u`. -/
theorem step_eq_of_work {xs : List Access} {u : State} (ha : s.answered = true) (hx : s.stepAccesses = xs)
    (hu : (s.contended xs).work = .next u) : step s = .next { u with tacts := u.narrow u.tacts } := by
  rw [step_of_answered s ha, hx, hu]
  rfl

theorem step_eq_of_no_accesses {u : State} (hx : s.stepAccesses = []) (hu : s.work = .next u) :
    step s = .next { u with tacts := u.narrow u.tacts } :=
  step_eq_of_work (answered_of_no_accesses s hx) hx hu

end

/-! ### The state after power-up, and the reset step (70_reset_and_hazards.md R700, R701) -/

@[simp] theorem narrow_zero (s : State) : s.narrow 0 = 0 := by
  unfold State.narrow
  split
  · rfl
  · exact Nat.zero_mod _

/-- Settles O6: every field of the state at power-up is computed. -/
theorem powerUpStateIsAllZero : Obligations.PowerUpStateIsAllZero := by
  unfold Obligations.PowerUpStateIsAllZero
  refine ⟨fun m w => ⟨rfl, rfl⟩, ?_⟩
  and_intros <;> rfl

/-- Settles O16: the reset step keeps memory, leaves a boundary and sets the tact counter to 0. -/
theorem resetStatesAreLegal : Obligations.ResetStatesAreLegal := by
  unfold Obligations.ResetStatesAreLegal
  refine ⟨rfl, fun s hs => ?_⟩
  obtain ⟨⟨hmem, -, -⟩, -⟩ := (legal_iff s).mp hs
  exact (legal_iff _).mpr ⟨settled_of_boundary hmem rfl rfl, narrow_zero s.resetSignal⟩

/-- Settles O5: the reset step makes no access, and 0 is not narrowed. -/
theorem resetStepClearsExactlyItsRegisters : Obligations.ResetStepClearsExactlyItsRegisters := by
  unfold Obligations.ResetStepClearsExactlyItsRegisters
  intro s hr
  have hk : s.stepKind = .reset := stepKind_eq_reset_iff.mpr hr
  have hstep := step_eq_of_no_accesses (u := s.resetSignal) (by rw [State.stepAccesses, hk]) (by rw [State.work, hk])
  exact hstep.trans (congrArg (fun n => Host.Outcome.next { s.resetSignal with tacts := n }) (narrow_zero s))

/-! ### The halted step (R615) -/

/-- Settles O10: the halted step makes no access. -/
theorem haltedStepOnlyCountsRAndTacts : Obligations.HaltedStepOnlyCountsRAndTacts := by
  unfold Obligations.HaltedStepOnlyCountsRAndTacts
  intro s hr hb hn ha hh
  have hk := stepKind_halted hr hb hn ha hh
  exact step_eq_of_no_accesses (u := s.haltedStep) (by rw [State.stepAccesses, hk]) (by rw [State.work, hk])

/-! ### The acknowledgments (R621 to R626) -/

/-- Settles O7: `enterHandler_spec`, with IFF2 kept, after the contention of the two writes. -/
theorem nmiEntrySavesPcAndKeepsIff2 : Obligations.NmiEntrySavesPcAndKeepsIff2 := by
  unfold Obligations.NmiEntrySavesPcAndKeepsIff2
  intro s hr hb hn ha c
  have hk := stepKind_nmiAck hr hb hn
  have hx : s.stepAccesses = s.pushAccesses := by rw [State.stepAccesses, hk]
  have hw : c.work = .next c.nmiAck := by rw [State.work, stepKind_contended, hk]
  refine ⟨_, step_eq_of_work ha hx hw, ?_, State.stores_of_mem ?_⟩
  all_goals
    rw [State.nmiAck, enterHandler_spec, show c = _ from contended_eq s _]
    rfl

section

variable {s : State}

theorem acceptsInt_of (hl : s.intLine = true) (hi : s.iff1 = true) (hb : s.blocked = false) : s.acceptsInt = true := by
  simp [State.acceptsInt, *]

theorem intAck_of_im_ne (h : s.im ≠ .im2) :
    s.intAck = s.enterHandler false (fun _ => 0x0038) 13 ∧ s.intAccesses = s.pushAccesses := by
  unfold State.intAck State.intAccesses
  cases him : s.im
  case im2 => exact absurd him h
  all_goals exact ⟨rfl, rfl⟩

theorem intAccesses_of_im2 (h : s.im = .im2) : s.intAccesses = s.pushAccesses ++ .busVector :: readsWord s.vectorEntry := by
  rw [State.intAccesses, h]

@[simp] theorem vectorEntry_contended (xs : List Access) : (s.contended xs).vectorEntry = s.vectorEntry := by
  simp [State.vectorEntry, State.busByte]

/-- The acknowledgment in mode 2, after the contention of its accesses: the table entry is read after the push (R626). -/
theorem intAck_contended_of_im2 (xs : List Access) (h : s.im = .im2) :
    (s.contended xs).intAck = { s.entered false with
      pc := (s.entered false).read16 s.vectorEntry, wz := (s.entered false).read16 s.vectorEntry
      tacts := (s.contended xs).tacts + 19, contention := (s.contended xs).contention
      busVector := s.busVector.tail, draws := s.draws + 1 } := by
  have hc : (s.contended xs).im = .im2 := by simpa using h
  rw [State.intAck, hc]
  dsimp only
  rw [enterHandler_spec, vectorEntry_contended, contended_eq s xs]
  rfl

end

/-- Settles O8: `enterHandler_spec`, with both flip-flops cleared, after the contention of the two writes. -/
theorem interruptEntryInModesZeroAndOne : Obligations.InterruptEntryInModesZeroAndOne := by
  unfold Obligations.InterruptEntryInModesZeroAndOne
  intro s hr hb hn hl hi hbl ha him c
  have hk := stepKind_intAck hr hb hn (acceptsInt_of hl hi hbl)
  obtain ⟨-, hacc⟩ := intAck_of_im_ne him
  obtain ⟨hack, -⟩ := intAck_of_im_ne (s := c) (by simpa [c] using him)
  have hx : s.stepAccesses = s.pushAccesses := by
    rw [State.stepAccesses, hk]
    exact hacc
  have hw : c.work = .next c.intAck := by rw [State.work, stepKind_contended, hk]
  refine ⟨_, step_eq_of_work ha hx hw, ?_, State.stores_of_mem ?_⟩
  all_goals
    rw [hack, enterHandler_spec, show c = _ from contended_eq s _]
    rfl

/-- Settles O9: as O8, with the vector byte drawn and the PC read from the table. -/
theorem interruptEntryInModeTwo : Obligations.InterruptEntryInModeTwo := by
  unfold Obligations.InterruptEntryInModeTwo
  intro s hr hb hn hl hi hbl ha him entry c
  have hk := stepKind_intAck hr hb hn (acceptsInt_of hl hi hbl)
  have hx : s.stepAccesses = s.pushAccesses ++ .busVector :: readsWord entry := by
    rw [State.stepAccesses, hk]
    exact intAccesses_of_im2 him
  have hw : c.work = .next c.intAck := by rw [State.work, stepKind_contended, hk]
  rw [intAck_contended_of_im2 _ him] at hw
  exact ⟨_, step_eq_of_work ha hx hw, rfl, State.stores_of_mem rfl, State.lo_read16 _ _, State.hi_read16 _ _⟩

/-! ### The fetch and the execution (R611) -/

/-- What the fetch of `k` bytes leaves (30_encoding.md R112, R118). -/
theorem fetched_eq (s : State) (k : Nat) :
    s.fetched k = { s with
      pc := s.pc + BitVec.ofNat 16 k
      r := if s.prefixMode = .bit ∧ s.indexMode ≠ none then s.r else inc7 s.r
      tacts := s.tacts + if s.prefixMode = .bit ∧ s.indexMode ≠ none then 0 else 4 } := by
  unfold State.fetched State.context
  cases hp : s.prefixMode <;> cases hx : s.indexMode <;> simp

theorem entering_eq (s : State) (i : Instr) (k : Nat) :
    s.entering i k = { s.fetched k with
      blocked := if i.isPrefixStep = true then s.blocked else false
      prefixMode := if i.isPrefixStep = true then s.prefixMode else .plain
      indexMode := if i.isPrefixStep = true then s.indexMode else none } := by
  unfold State.entering
  split
  · ext <;> simp
  · rfl

/-- Settles O4: the accesses and the work of a step that fetches, with what the fetch leaves written out. -/
theorem stepExecutesTheDecodedInstruction : Obligations.StepExecutesTheDecodedInstruction := by
  unfold Obligations.StepExecutesTheDecodedInstruction
  intro s i rest hf hd c
  have hk := stepKind_of_fetches hf
  have ha : s.answered = true := by
    simp only [State.fetches, Bool.and_eq_true] at hf
    obtain ⟨⟨-, ha⟩, -⟩ := hf
    exact ha
  have hx : s.stepAccesses = s.fetchAccesses (3 - rest.length) ++ s.dataAccesses i := by
    rw [State.stepAccesses, hk, decoded_ok hd]
  have hw : c.work = exec i (c.entering i (3 - rest.length)) := by
    rw [State.work, stepKind_contended, hk]
    dsimp only
    rw [State.instrStep, decoded_contended, decoded_ok hd]
  rw [step_of_answered s ha, hx, hw, entering_eq, fetched_eq, show c = _ from contended_eq s _]

theorem work_of_instruction {s : State} (h : s.stepKind = .instruction) : s.work = s.instrStep := by rw [State.work, h]

theorem work_completes (s : State) : ∃ t, s.work = .next t := by
  unfold State.work
  split
  case h_5 =>
    obtain ⟨i, k, t, ht⟩ := exists_executes s
    exact ⟨t, ht.instrStep⟩
  all_goals exact ⟨_, rfl⟩

theorem step_completes {s : State} (h : s.failing s.stepAccesses = none) : ∃ t, step s = .next t := by
  obtain ⟨t, ht⟩ := work_completes (s.contended s.stepAccesses)
  exact ⟨_, step_eq_of_work (by rw [State.answered, h]; rfl) rfl ht⟩

/-! ### The failing collaborator (R601) -/

theorem step_of_failing {s : State} {f : Failure} (h : s.failing s.stepAccesses = some f) :
    step s = .fault (.deviceFailure (s.tactsAtFailure s.stepAccesses f)) := by
  rw [step, State.cycle, h]

/-- Settles O2: `decodeIn_three`; and a step ends in a next state or, where a collaborator fails, in a fault. -/
theorem everyByteDecodesAndNoStepRefuses : Obligations.EveryByteDecodesAndNoStepRefuses := by
  unfold Obligations.EveryByteDecodesAndNoStepRefuses
  refine ⟨fun c b₀ b₁ b₂ rest => ?_, fun s r h => ?_⟩
  · obtain ⟨i, more, hd, hwf, hc⟩ := decodeIn_three c b₀ b₁ b₂ rest
    exact ⟨i, more, hd, hwf, hc⟩
  · cases hf : s.failing s.stepAccesses with
    | none =>
      obtain ⟨t, ht⟩ := step_completes hf
      cases ht.symm.trans h
    | some f => cases (step_of_failing hf).symm.trans h

theorem stepAccesses_of_reset_or_halted {s : State}
    (h : s.resetPending = true ∨ (s.halted = true ∧ s.boundary = true ∧ s.nmiPending = false ∧ s.acceptsInt = false)) :
    s.stepAccesses = [] := by
  unfold State.stepAccesses
  cases hr : s.resetPending
  · obtain ⟨hh, hb, hn, ha⟩ := h.resolve_left (by simp [hr])
    rw [stepKind_halted hr hb hn ha hh]
  · rw [stepKind_eq_reset_iff.mpr hr]

/-- Settles O13: the fault carries `State.tactsAtFailure`, whose sum only adds to the counter. -/
theorem deviceFailureStopsAnAccessingStep : Obligations.DeviceFailureStopsAnAccessingStep := by
  unfold Obligations.DeviceFailureStopsAnAccessingStep
  refine fun s f hf => ⟨fun hlt => ?_, fun hle g hg => ?_, stepAccesses_of_reset_or_halted⟩
  · have hfail : s.failing s.stepAccesses = some f := by simp [State.failing, hf, hlt]
    exact ⟨_, step_of_failing hfail, (tacts_le_contended s _).trans (Nat.le_add_right_of_le (Nat.le_add_right _ _)), rfl⟩
  · obtain ⟨t, ht⟩ := step_completes (s := s) (by simp [State.failing, hf, hle])
    cases ht.symm.trans hg

/-! ### The NMI request and the INT line inside an instruction (R612) -/

section

variable (s : State) (n l : Bool)

theorem contend_signalled (x : Access) : (s.signalled n l).contend x = (s.contend x).signalled n l := by
  unfold State.contend
  split <;> rfl

theorem contended_signalled (xs : List Access) : (s.signalled n l).contended xs = (s.contended xs).signalled n l := by
  induction xs generalizing s with
  | nil => rfl
  | cons x xs ih =>
    rw [State.contended, List.foldl_cons, contend_signalled]
    exact ih (s.contend x)

theorem entering_signalled (i : Instr) (k : Nat) : (s.signalled n l).entering i k = (s.entering i k).signalled n l := by
  simp only [entering_eq, fetched_eq]
  rfl

variable {s} {t : State}

theorem instrStep_signalled (h : s.instrStep = .next t) : (s.signalled n l).instrStep = .next (t.signalled n l) := by
  obtain ⟨i, k, hd, hi, ht⟩ := executes_of_instrStep h
  obtain ⟨hn, -, hexec⟩ := exec_coreInstr hi.wf
  refine State.Executes.instrStep (i := i) (k := k) ⟨hd, hi, ?_⟩
  rw [entering_signalled, hexec]
  exact exec_signalled hn (hexec _ ▸ ht) n l

theorem step_signalled (hk : s.stepKind = .instruction) (hk' : (s.signalled n l).stepKind = .instruction) (h : step s = .next t) :
    step (s.signalled n l) = .next (t.signalled n l) := by
  obtain ⟨hf, u, hu, rfl⟩ := step_eq_next h
  rw [work_of_instruction (by simpa using hk)] at hu
  have hx : (s.signalled n l).stepAccesses = s.stepAccesses := by
    rw [State.stepAccesses, State.stepAccesses, hk, hk']
    rfl
  have ha : (s.signalled n l).answered = true := by
    rw [State.answered, hx]
    exact beq_iff_eq.mpr hf
  refine step_eq_of_work (u := u.signalled n l) ha hx ?_
  rw [work_of_instruction (by simpa using hk'), contended_signalled]
  exact instrStep_signalled n l hu

theorem instrStep_keeps_signals (h : s.instrStep = .next t) : t.nmiPending = s.nmiPending ∧ t.intLine = s.intLine := by
  obtain ⟨i, k, -, -, ht⟩ := executes_of_instrStep h
  simp [(exec_performs ht).control_fields, entering_eq]

end

/-- Settles O11: not at a boundary the step is an instruction step, with the signals or without. -/
theorem noInterruptInsideAnInstruction : Obligations.NoInterruptInsideAnInstruction := by
  unfold Obligations.NoInterruptInsideAnInstruction
  intro s n l hr hb
  have hk := stepKind_of_not_boundary hr hb
  refine ⟨fun t h => step_signalled n l hk (stepKind_of_not_boundary hr hb) h, fun t h => ?_⟩
  obtain ⟨-, u, hu, rfl⟩ := step_eq_next h
  rw [work_of_instruction (by simpa using hk)] at hu
  simpa using instrStep_keeps_signals hu

/-! ### The tacts (70_reset_and_hazards.md R730, R732) -/

section

variable {s t : State}

theorem tacts_entering (s : State) (i : Instr) (k : Nat) : (s.entering i k).tacts + s.context.unfetchedTacts = s.tacts + 4 := by
  rw [entering_eq, fetched_eq]
  dsimp only
  unfold State.context
  cases s.prefixMode <;> cases s.indexMode <;> simp [Context.unfetchedTacts]

theorem instrStep_tacts (h : s.instrStep = .next t) : s.tacts + 4 ≤ t.tacts ∧ t.tactWidth = s.tactWidth := by
  obtain ⟨i, k, -, ⟨hi, hc⟩, ht⟩ := executes_of_instrStep h
  refine ⟨?_, by simp [(exec_performs ht).control_fields, entering_eq]⟩
  obtain ⟨hn, hcore, hexec⟩ := exec_coreInstr hi
  rw [← tacts_entering s i k, ← hc, hcore]
  exact exec_tacts hn (hexec _ ▸ ht)

theorem enterHandler_tacts (s : State) (iff2 : Bool) (vector : State → Word) {cost : Nat} (h : 4 ≤ cost) :
    s.tacts + 4 ≤ (s.enterHandler iff2 vector cost).tacts ∧ (s.enterHandler iff2 vector cost).tactWidth = s.tactWidth := by
  rw [enterHandler_spec]
  exact ⟨Nat.add_le_add_left h _, rfl⟩

theorem intAck_tacts (s : State) : s.tacts + 4 ≤ s.intAck.tacts ∧ s.intAck.tactWidth = s.tactWidth := by
  unfold State.intAck
  split
  · exact enterHandler_tacts s _ _ (by decide)
  · exact enterHandler_tacts s _ _ (by decide)
  · exact enterHandler_tacts s.busDrawn _ _ (by decide)

theorem work_tacts (hr : s.resetPending = false) (h : s.work = .next t) : s.tacts + 4 ≤ t.tacts ∧ t.tactWidth = s.tactWidth := by
  unfold State.work at h
  split at h
  next hk => simp [stepKind_eq_reset_iff.mp hk] at hr
  next => cases h; exact enterHandler_tacts { s with nmiPending := false } _ _ (by decide)
  next => cases h; exact intAck_tacts s
  next => cases h; exact ⟨Nat.le_refl _, rfl⟩
  next => exact instrStep_tacts h

theorem narrow_eq_of_tactWidth_eq (h : t.tactWidth = s.tactWidth) (n : Nat) : t.narrow n = s.narrow n := by
  rw [State.narrow, h]
  rfl

theorem step_tacts (hr : s.resetPending = false) (h : step s = .next t) :
    ∃ n, 4 ≤ n ∧ t.tacts = s.narrow ((s.contended s.stepAccesses).tacts + n) := by
  obtain ⟨-, u, hu, rfl⟩ := step_eq_next h
  obtain ⟨ht, hw⟩ := work_tacts (by simpa using hr) hu
  refine ⟨u.tacts - (s.contended s.stepAccesses).tacts, by omega, ?_⟩
  rw [Nat.add_sub_cancel' (by omega)]
  exact narrow_eq_of_tactWidth_eq (by simpa using hw) _

/-! #### Contention, access by access (20_memory.md R89) -/

theorem contend_of_no_draw {x : Access} (h : ∀ d ∈ s.contention, d.1 ≠ x) : s.contend x = s := by
  have hl : s.contention.lookup x = none := List.lookup_eq_none_iff.mpr fun d hd => by simpa using (h d hd).symm
  have he : s.contention.eraseP (·.1 == x) = s.contention := List.eraseP_of_forall_not fun d hd => by simpa using h d hd
  unfold State.contend
  split
  · rfl
  · rw [hl, he]
    rfl

theorem contend_of_first_draw {x : Access} {n : Nat} {before after : List (Access × Nat)} (hx : x ≠ .busVector)
    (h : ∀ d ∈ before, d.1 ≠ x) (hs : s.contention = before ++ (x, n) :: after) :
    s.contend x = { s with tacts := s.tacts + n, contention := before ++ after } := by
  have hl : s.contention.lookup x = some n :=
    List.lookup_eq_some_iff.mpr ⟨before, after, hs, fun d hd => by simpa using (h d hd).symm⟩
  have he : s.contention.eraseP (·.1 == x) = before ++ after := by
    rw [hs, List.eraseP_append_right _ fun d hd => by simpa using h d hd]
    simp
  rw [State.contend, if_neg hx, hl, he]
  rfl

end

/-- Settles O14: the work of every kind of step but the reset adds at least 4, and the first draw that names an access is what
contention adds. -/
theorem tactsOnlyIncrease : Obligations.TactsOnlyIncrease := by
  unfold Obligations.TactsOnlyIncrease
  refine ⟨fun s t hr h => ?_, fun s xs => ⟨contended_eq s xs, fun _ => rfl⟩, fun s x n before after hb hs hx => ⟨?_, ?_, rfl⟩⟩
  · obtain ⟨n, hn, ht⟩ := step_tacts hr h
    refine ⟨n, hn, ht, fun hw => ?_⟩
    have hc := tacts_le_contended s s.stepAccesses
    rw [ht, narrow_unbounded s _ hw]
    omega
  · exact contend_of_first_draw hx hb hs
  · exact contend_of_no_draw (s := { s with contention := before }) hb

/-! ### What the host may do (R640 to R644) -/

theorem intModeOf_eq_none {m : Nat} (h : 2 < m) : intModeOf m = none := by
  obtain ⟨k, rfl⟩ := Nat.exists_eq_add_of_le h
  rw [Nat.add_comm]
  rfl

/-- Settles O19: each interaction is one record update; what the next draw then gives, and what memory then reads, is said beside it. -/
theorem hostActionsChangeExactlyTheirPiece : Obligations.HostActionsChangeExactlyTheirPiece := by
  unfold Obligations.HostActionsChangeExactlyTheirPiece
  refine fun s => ⟨rfl, rfl, fun _ => rfl, rfl, rfl, rfl, rfl, fun m hm => ?_, fun _ => rfl, fun v => ⟨_, rfl, rfl, rfl, fun h => ?_⟩,
    fun v => ⟨_, rfl, rfl, rfl, fun h port => ?_⟩, fun x n => ⟨_, rfl, rfl, rfl, fun hx h => ?_⟩, fun _ => rfl, fun _ => rfl,
    fun a v => ⟨_, rfl, rfl, fun b => s.mem.read_load a b v, fun hf b => ?_⟩, fun v => ?_⟩
  · simp [State.hostAct, intModeOf_eq_none hm]
  · simp [State.busByte, h]
  · simp [State.portByte, h]
  · rw [contend_of_first_draw hx h rfl]
  · refine (s.mem.read_load a b v).trans ?_
    simp [MemoryCollaborator.flat_cell hf, BitVec.toNat_inj, State.read8]
  · and_intros <;> rfl

end Sys2Proof.Machine
